-- ==== Sys2Proof/Word.lean ====
section
/-! DEFINITION. The plain words of the HZ4160 model: bytes, tick times, frame numbers, lane numbers, levels, and a fixed
collection of sixteen like things (the output lanes and the capture lanes). -/

namespace Sys2Proof

/-- One byte of the serial link (R139). -/
abbrev Byte := BitVec 8

/-- A tick time: 64 bits wide (R1). -/
abbrev Tick := BitVec 64

/-- A frame number: 32 bits, arithmetic modulo 2^32 (R8). -/
abbrev FrameNo := BitVec 32

/-- A lane number, 0 to 15. -/
abbrev Lane := Fin 16

/-- The level of an input pin, or a scheduled level (0 is LOW, 1 is HIGH). -/
inductive Level where
  | low
  | high
  deriving DecidableEq, Repr

/-- Sixteen like things, one for each lane. -/
structure Lanes (α : Type) where
  items : List α
  sixteen : items.length = 16
  deriving DecidableEq, Repr

namespace Lanes

variable {α β γ : Type}

/-- The thing of one lane. -/
def get (v : Lanes α) (i : Lane) : α :=
  v.items[i.val]'(by rw [v.sixteen]; exact i.isLt)

/-- The collection with the thing of one lane replaced. -/
def set (v : Lanes α) (i : Lane) (x : α) : Lanes α :=
  ⟨v.items.set i.val x, by rw [List.length_set, v.sixteen]⟩

/-- The same thing on every lane. -/
def fill (x : α) : Lanes α :=
  ⟨List.replicate 16 x, List.length_replicate⟩

/-- Each lane's thing through a function. -/
def map (f : α → β) (v : Lanes α) : Lanes β :=
  ⟨v.items.map f, by rw [List.length_map, v.sixteen]⟩

/-- Two collections joined lane by lane. -/
def zip (f : α → β → γ) (v : Lanes α) (w : Lanes β) : Lanes γ :=
  ⟨List.zipWith f v.items w.items, by rw [List.length_zipWith, v.sixteen, w.sixteen]; rfl⟩

end Lanes

/-- The lanes in ascending order. -/
def allLanes : List Lane := [0, 1, 2, 3, 4, 5, 6, 7, 8, 9, 10, 11, 12, 13, 14, 15]

/-- A counter that stops at 65,535 (00, section 5.1: saturating). -/
def satSucc (n : Nat) : Nat := if n < 65535 then n + 1 else 65535

end Sys2Proof
end

