-- ==== Sys2Proof/Syntax.lean ====
section
/-! DEFINITION. The commands of the HZ4160: one constructor for each row of spec/opcode_table.json. -/

namespace Sys2Proof

/-- A rising edge on FRAME_IN (R19): `late` says that it comes after this tick's sampling of FRAME_IN, so that the next tick is
the first to sample it (log 8); `fires` says how many firings the executor makes at once if the pulse makes a boundary, the rest
following at the same tick by ENTRY_FIRE (R76, R84, log 7). -/
structure PulseEdge where
  late : Bool
  fires : Nat
  deriving DecidableEq, Repr

/-- The commands. Pin events and the choices the spec leaves to the device carry operands; a row that dispatches a request
carries none, since the request's tag and body stand in the request queue (R151). -/
inductive Instr where
  /-- POWER_ON (R14): the supply becomes valid; the strap levels BAUD1 and BAUD0 at that moment. -/
  | powerOn (baud1 baud0 : Level)
  /-- RESET_N_ASSERT (R14). -/
  | resetNAssert
  /-- RESET_N_RELEASE (R14): the strap levels BAUD1 and BAUD0 at that moment. -/
  | resetNRelease (baud1 baud0 : Level)
  /-- SYNTHESIZER_LOCK (R14). -/
  | synthesizerLock
  /-- REFERENCE_PULSE (R19): the rising edge. -/
  | referencePulse (edge : PulseEdge)
  /-- NOMINAL_BOUNDARY (R2): how many firings the executor makes at once, the rest following at the same tick by ENTRY_FIRE (R76,
  log 7). -/
  | nominalBoundary (fires : Nat)
  /-- MISS (R27). -/
  | miss
  /-- FRAME_OUT_END (R13). -/
  | frameOutEnd
  /-- ENTRY_FIRE (R76). -/
  | entryFire
  /-- PULSE_END (R81): the lane whose pulse ends. -/
  | pulseEnd (lane : Lane)
  /-- SAFE_N_CHANGE (R98): the level SAFE_N goes to. -/
  | safeNChange (level : Level)
  /-- SAFE_N_QUALIFIED (R98). -/
  | safeNQualified
  /-- INPUT_LEVEL_CHANGE (R110): the lane and the level its pin goes to. -/
  | inputLevelChange (lane : Lane) (level : Level)
  /-- EDGE_QUALIFIED (R110): the whole group of edges qualified at this tick (R125); bit n of `before` says that lane n is
  taken before a change of the tracker state at this tick (R115). -/
  | edgeQualified (before : BitVec 16)
  /-- RECEIVE_FRAME (R145): the CRC low byte. -/
  | receiveFrame (crcLow : Byte)
  /-- NOISE_BYTE (R141): the byte. -/
  | noiseByte (byte : Byte)
  /-- STOP_BIT_ERROR (R143). -/
  | stopBitError
  /-- LENGTH_ERROR (R142): the LEN byte. -/
  | lengthError (byte : Byte)
  /-- FRAME_TIMEOUT (R144). -/
  | frameTimeout
  /-- TRANSMIT_START (R166). -/
  | transmitStart
  /-- FRAME_SENT (R148). -/
  | frameSent
  /-- DUE_REPLY_PLACE (R161). -/
  | dueReplyPlace
  /-- RESTART_REPLY_PLACE (R162). -/
  | restartReplyPlace
  /-- RESTART_TAKES_EFFECT (R163). -/
  | restartTakesEffect
  /-- UNKNOWN_KIND (R155). -/
  | unknownKind
  /-- IDENTIFY (R168). -/
  | identify
  /-- LINK_STATS (R147). -/
  | linkStats
  /-- RESTART (R162). -/
  | restart
  /-- SYNC_WAIT (R158). -/
  | syncWait
  /-- TIME_READ (R16). -/
  | timeRead
  /-- FRAME_RENUMBER (R11). -/
  | frameRenumber
  /-- TRACK_CONFIG (R34). -/
  | trackConfig
  /-- TRACK_STATUS (R38). -/
  | trackStatus
  /-- ENTRY_ADD (R49). -/
  | entryAdd
  /-- ENTRY_REMOVE (R50). -/
  | entryRemove
  /-- BANK_CLEAR (R51). -/
  | bankClear
  /-- BANK_COPY (R52). -/
  | bankCopy
  /-- BANK_LENGTH (R53). -/
  | bankLength
  /-- BANK_READ (R56). -/
  | bankRead
  /-- COMMIT (R62). -/
  | commit
  /-- COMMIT_CANCEL (R67). -/
  | commitCancel
  /-- LANE_CONFIG (R92). -/
  | laneConfig
  /-- LANE_FORCE (R94). -/
  | laneForce
  /-- LANE_RELEASE (R95). -/
  | laneRelease
  /-- LANE_STATUS (R96). -/
  | laneStatus
  /-- SAFE_ENTER (R99). -/
  | safeEnter
  /-- SAFE_RELEASE (R100). -/
  | safeRelease
  /-- INPUT_CONFIG (R108). -/
  | inputConfig
  /-- LATCH_READ (R119). -/
  | latchRead
  /-- CAPTURE_GRANT (R127). -/
  | captureGrant
  /-- CAPTURE_FLUSH (R131). -/
  | captureFlush
  /-- CAPTURE_STATUS (R133). -/
  | captureStatus
  /-- SUPPLY_LOSS (R14). -/
  | supplyLoss
  /-- RECEIVER_ARMED (R136). -/
  | receiverArmed
  /-- START_BIT (R136). -/
  | startBit
  /-- FALSE_START (R136). -/
  | falseStart
  /-- GOOD_BYTE (R141): the byte. -/
  | goodByte (byte : Byte)
  deriving DecidableEq, Repr

end Sys2Proof
end

