-- ==== Sys2Proof/Config.lean ====
section
/-! DEFINITION. What the HZ4160 fixes (the capacities and times of the spec), and the free values: constants with no body,
for what the spec leaves open. -/

namespace Sys2Proof.Config

/-- Ticks in a second: the tick is 10 ns (R1). -/
def tickRate : Nat := 100000000

/-- The frame length of both banks after every reset (R59, R60). -/
def resetLength : Nat := 100000

/-- The least and the greatest frame length (R40, R53). -/
def minLength : Nat := 10000
def maxLength : Nat := 16000000

/-- Ticks for which FRAME_OUT is high at the start of a frame (R13). -/
def frameOutTicks : Nat := 8

/-- The deglitch of SAFE_N (R98). -/
def safeDeglitch : Nat := 100

/-- Entries a bank holds (R43). -/
def bankPlaces : Nat := 256

/-- Entries in one BANK_READ reply (R56). -/
def readPage : Nat := 16

/-- Places of the capture queue and records in one batch (R124, R128). -/
def capturePlaces : Nat := 512
def batchRecords : Nat := 16

/-- Places of the request queue, the reply cache, the wait list, the reply queue and the event queue (R151, R156, R158, R164,
R165). -/
def requestPlaces : Nat := 8
def cachePlaces : Nat := 8
def waitPlaces : Nat := 4
def replyPlaces : Nat := 4
def eventPlaces : Nat := 16

/-- The greatest accepted target distance, and the first distance that lies in the past (R10). -/
def maxDistance : Nat := 65535
def pastDistance : Nat := 2147483648

/-- The SYNC byte and the greatest LEN (R139). -/
def syncByte : Byte := 0xA5
def maxBody : Nat := 240

/-- Bit times without a start bit after which a frame times out (R144). -/
def gapBits : Nat := 64

/-- The part code and the revision (R168). -/
def partCode : Nat := 0x4160
def revision : Nat := 1

/-- FREE VALUE (log 6): which of several events due at one tick the device takes next on its own, as an index into the list
of due events. The argument is the choice counter of State. -/
opaque takenNext : Nat → Nat

/-- FREE VALUE (log 7): how many of the firings of a boundary the executor makes at once when the device takes the boundary on its
own; the rest follow at the same tick (R76, R84, R93). The argument is the choice counter. -/
opaque firesAtOnce : Nat → Nat

/-- FREE VALUE (log 7): whether a TRACK_CONFIG dispatched on a boundary tick before the tracker's own action there finds the
timebase's new frame, whose number its event then carries (R36, R37). The arguments are the choice counter and the tick time. -/
opaque configInNewFrame : Nat → BitVec 64 → Bool

/-- FREE VALUE (log 12): the item on RXD that ends a character of which the sender gave the start bit and no item: a byte, or
nothing for a stop bit sampled low (R136). -/
opaque rxdItem : Nat → Option (BitVec 8)

/-- FREE VALUE (log 11): the lanes that the device takes before a change of the tracker state at the tick of their
qualification (R115), when it takes the group on its own. -/
opaque lanesBefore : Nat → BitVec 16

/-- FREE VALUE (log 24): which blocks a TIME_READ on a boundary tick reads before their own action at the boundary (R17): bit 0
the timebase, bit 1 the tracker, bit 2 the schedule store. The arguments are the choice counter and the tick time. -/
opaque readBefore : Nat → BitVec 64 → BitVec 3

/-- FREE VALUE (log 13): whether a bit edge that falls exactly half-way between two ticks is placed on the later one (R136,
R137: "the nearest tick"). -/
opaque tieUp : Bool

end Sys2Proof.Config
end

