-- ==== Sys2Proof/WellFormed.lean ====
section
/-! DEFINITION. Which commands have operands that the row they stand for allows: a noise byte is not SYNC (R141), a length
error's byte is above 240 (R142). Every other operand takes every value of its type. -/

namespace Sys2Proof

/-- The operand check of each command. -/
def Instr.wellFormed : Instr → Bool
  | .noiseByte b => b != Config.syncByte
  | .lengthError b => decide (Config.maxBody < b.toNat)
  | .powerOn _ _ | .resetNAssert | .resetNRelease _ _ | .synthesizerLock | .referencePulse _ | .nominalBoundary _ | .miss
  | .frameOutEnd | .entryFire | .pulseEnd _ | .safeNChange _ | .safeNQualified | .inputLevelChange _ _ | .edgeQualified _
  | .receiveFrame _ | .stopBitError | .frameTimeout | .transmitStart | .frameSent | .dueReplyPlace | .restartReplyPlace
  | .restartTakesEffect | .unknownKind | .identify | .linkStats | .restart | .syncWait | .timeRead | .frameRenumber
  | .trackConfig | .trackStatus | .entryAdd | .entryRemove | .bankClear | .bankCopy | .bankLength | .bankRead | .commit
  | .commitCancel | .laneConfig | .laneForce | .laneRelease | .laneStatus | .safeEnter | .safeRelease | .inputConfig
  | .latchRead | .captureGrant | .captureFlush | .captureStatus | .supplyLoss | .receiverArmed | .startBit | .falseStart
  | .goodByte _ => true

end Sys2Proof
end

