-- ==== Sys2Proof/Decode.lean ====
section
/-! DEFINITION. The commands of this block are not words: no row of spec/opcode_table.json gives bits. The bytes that reach
the block are its serial frames, which the receive parser reads (R141, Machine/Link.lean). -/

namespace Sys2Proof

/-- The command that a word of the opcode table spells: none, since no row of the table gives bits. -/
def decodeTableWord (_nbits _w : Nat) : Option Instr := none

end Sys2Proof
end

