-- ==== Sys2Proof/Machine/State.lean ====
section
/-! DEFINITION. The state of the HZ4160: the state of each of its ten blocks as plain data, the pins, the queue of commands
waiting, and the machine right after reset. -/

namespace Sys2Proof.Machine

/-! ### Names used by several blocks -/

/-- The cause of a boundary (R7). -/
inductive Cause where
  | nominal
  | early
  | cut
  deriving DecidableEq, Repr

/-- The id of a bank (R40). -/
inductive BankId where
  | a
  | b
  deriving DecidableEq, Repr

/-- The level of an output pin, and of a hold level (R89, R90). -/
inductive PinLevel where
  | low
  | high
  | highImpedance
  deriving DecidableEq, Repr

/-- The mode of the tracker (R18). -/
inductive TrackMode where
  | localMode
  | externalMode
  deriving DecidableEq, Repr

/-- The state of the tracker, and the quality of a capture (R18, R115). -/
inductive TrackState where
  | free
  | acquire
  | locked
  | holdover
  | lost
  deriving DecidableEq, Repr

/-- The cause of a TRACKER_STATE event (R37). -/
inductive TrackCause where
  | pulse
  | miss
  | holdoverLimit
  | realign
  | length
  | config
  deriving DecidableEq, Repr

/-- What an entry does to its lane (R41). -/
inductive Action where
  | set
  | clear
  | toggle
  | pulse
  deriving DecidableEq, Repr

/-- What set the safe latch (R98, R99). -/
inductive SafeCause where
  | input
  | request
  deriving DecidableEq, Repr

/-- The cause of a READY event (R167). -/
inductive ReadyCause where
  | power
  | pin
  | restart
  deriving DecidableEq, Repr

/-- The direction of a qualified edge (R111). -/
inductive EdgeDir where
  | rise
  | fall
  deriving DecidableEq, Repr

/-- The statuses of replies (11, section 11.8). -/
inductive Status where
  | ok | busy | unknownKind | badLength | badValue | duplicate | bankFull | notFound | frozen | commitPending
  | renumberPending | notPending | late | wrongMode | safeActive | safeInputActive | waitFull | aborted | renumbered | empty
  deriving DecidableEq, Repr

/-- The request kinds (R174). -/
inductive ReqKind where
  | identify | linkStats | restart | syncWait | timeRead | frameRenumber | trackConfig | trackStatus | entryAdd | entryRemove
  | bankClear | bankCopy | bankLength | bankRead | commit | commitCancel | laneConfig | laneForce | laneRelease | laneStatus
  | safeEnter | safeRelease | inputConfig | latchRead | captureGrant | captureFlush | captureStatus
  deriving DecidableEq, Repr

/-! ### Timebase (01) -/

/-- The previous frame record (R7). -/
structure PrevFrame where
  frame : FrameNo
  start : Tick
  length : Nat
  deriving DecidableEq, Repr

/-- The timebase's state (01, its state table). -/
structure Timebase where
  tick : Tick
  frame : FrameNo
  offset : Nat
  startLen : Nat
  planned : Nat
  start : Tick
  prev : Option PrevFrame
  renumber : Option FrameNo
  outTimer : Nat
  frameOut : Bool
  deriving DecidableEq, Repr

/-! ### Reference tracker (02) -/

/-- The acquisition candidate (R29). -/
structure Candidate where
  tick : Tick
  count : Nat
  deriving DecidableEq, Repr

/-- The tracker's state (02, its state table). -/
structure Tracker where
  mode : TrackMode
  state : TrackState
  w : Nat
  acqCount : Nat
  missLimit : Nat
  holdoverLimit : Nat
  window : Nat
  candidate : Option Candidate
  corrected : Bool
  misses : Nat
  holdover : Nat
  strays : Nat
  realignments : Nat
  lastCorrection : Int
  deriving DecidableEq, Repr

/-! ### Schedule store (03, 04) -/

/-- A schedule entry (R41). -/
structure Entry where
  offset : Nat
  lane : Lane
  action : Action
  width : Option Nat
  period : Nat
  phase : Nat
  notify : Bool
  tag : Option Nat
  deriving DecidableEq, Repr

/-- A bank record, less its id and its role, which the store gives (R40). -/
structure Bank where
  length : Nat
  entries : List Entry
  deriving DecidableEq, Repr

/-- The commit state (R61). -/
inductive CommitState where
  | idle
  | pending (target : FrameNo)
  deriving DecidableEq, Repr

/-- The schedule store's state (03, its state table). The bank that is not active is the shadow. -/
structure Store where
  bankA : Bank
  bankB : Bank
  active : BankId
  commit : CommitState
  deriving DecidableEq, Repr

/-! ### Action executor (05) -/

/-- The executor's state (05, its state table). -/
structure Executor where
  bank : BankId
  frame : FrameNo
  cursor : Nat
  discard : Nat
  deriving DecidableEq, Repr

/-! ### Output lanes and safe control (06) -/

/-- The mode of an output lane (R89). -/
inductive LaneMode where
  | off
  | scheduled
  | forcedHigh
  | forcedLow
  deriving DecidableEq, Repr

/-- The safe level of an output lane (R89). -/
inductive SafeLevel where
  | low
  | high
  | hold
  | off
  deriving DecidableEq, Repr

/-- A lane record (R89). -/
structure OutLane where
  mode : LaneMode
  level : Level
  pulseEnd : Option Tick
  safe : SafeLevel
  hold : PinLevel
  deriving DecidableEq, Repr

/-- A change of level being qualified: the level and the tick at which it was first sampled (R98, R110). -/
structure LevelCandidate where
  level : Level
  start : Tick
  deriving DecidableEq, Repr

/-- The safe control's state; the latch is CLEAR when absent, and the qualified state ASSERTED when LOW (06, its state
table). -/
structure Safe where
  latch : Option SafeCause
  qualified : Level
  candidate : Option LevelCandidate
  deriving DecidableEq, Repr

/-! ### Capture lanes (07) -/

/-- The edge setting of a capture lane (R106). -/
inductive EdgeSetting where
  | off
  | rise
  | fall
  | both
  deriving DecidableEq, Repr

/-- Where a captured edge goes (R106). -/
inductive Delivery where
  | queue
  | latch
  deriving DecidableEq, Repr

/-- A gate (R114). -/
structure Gate where
  first : Nat
  last : Nat
  deriving DecidableEq, Repr

/-- A latch record (R118). -/
structure LatchRecord where
  present : Bool
  edge : EdgeDir
  frame : FrameNo
  offset : Nat
  quality : TrackState
  overwritten : Bool
  deriving DecidableEq, Repr

/-- A capture lane: its configuration (R106), its qualification (R110) and its latch record (R118). -/
structure InLane where
  edge : EdgeSetting
  deglitch : Nat
  gate : Option Gate
  delivery : Delivery
  qualified : Level
  candidate : Option LevelCandidate
  latch : LatchRecord
  deriving DecidableEq, Repr

/-- The capture lanes' state (07, its state table). -/
structure Capture where
  lanes : Lanes InLane
  seq : BitVec 16
  deriving DecidableEq, Repr

/-! ### Capture queue and batcher (08) -/

/-- A capture record (R116). -/
structure CaptureRecord where
  lane : Lane
  edge : EdgeDir
  seq : BitVec 16
  frame : FrameNo
  offset : Nat
  quality : TrackState
  deriving DecidableEq, Repr

/-- The capture queue's state (08, its state table). -/
structure CaptureQueue where
  records : List CaptureRecord
  credit : Nat
  lost : Nat
  deriving DecidableEq, Repr

/-! ### Link port (09) -/

/-- The selected baud (R138). -/
inductive Baud where
  | b115200
  | b460800
  | b1000000
  | b3000000
  deriving DecidableEq, Repr

/-- The receiver (R136). -/
inductive Receiver where
  | off
  | waitingHigh
  | armed
  deriving DecidableEq, Repr

/-- The character under way on RXD (R136): none; one whose start bit's falling edge was seen at a tick and whose byte has not
been taken; or one whose byte has been taken, in its stop bit. -/
inductive RxChar where
  | idle
  | reading (start : Tick)
  | stopping (start : Tick)
  deriving DecidableEq, Repr

/-- The parser's states (R141). -/
inductive ParserState where
  | hunt
  | len
  | kind
  | tag
  | body
  | crcHi
  | crcLo
  deriving DecidableEq, Repr

/-- The parser and the frame in progress (R141). -/
structure Parser where
  state : ParserState
  length : Nat
  kind : Byte
  tag : Byte
  body : List Byte
  crc : BitVec 16
  crcHigh : Byte
  deriving DecidableEq, Repr

/-- The transmitter (R148): the frame being sent, the tick at which its SYNC character began, and whether it is the reply
whose end brings a restart into effect (R163). -/
inductive Transmitter where
  | idle
  | sending (frame : List Byte) (start : Tick) (restarts : Bool)
  deriving DecidableEq, Repr

/-- The six link counters (R146). -/
structure Counters where
  framesOk : Nat
  crcErrors : Nat
  lengthErrors : Nat
  framingErrors : Nat
  timeouts : Nat
  busyDropped : Nat
  deriving DecidableEq, Repr

/-- The link port's state (09, its state table), with the character under way on RXD (R136). -/
structure Link where
  baud : Baud
  receiver : Receiver
  character : RxChar
  parser : Parser
  gap : Option Tick
  transmitter : Transmitter
  counters : Counters
  deriving DecidableEq, Repr

/-! ### Request engine and outbound arbiter (10) -/

/-- A received request: a good frame as the link port hands it on (R145). -/
structure Request where
  kind : Byte
  tag : Byte
  body : List Byte
  crc : BitVec 16
  deriving DecidableEq, Repr

/-- A reply (R154); `restarts` marks the one RESTART reply whose end brings the restart into effect (R163). -/
structure Reply where
  kind : Byte
  tag : Byte
  body : List Byte
  restarts : Bool
  deriving DecidableEq, Repr

/-- What a retry is recognised by: tag, kind, body length and CRC (R157). -/
structure RetryKey where
  tag : Byte
  kind : Byte
  length : Nat
  crc : BitVec 16
  deriving DecidableEq, Repr

/-- An entry of the reply cache (R156). -/
structure CacheEntry where
  key : RetryKey
  reply : Reply
  deriving DecidableEq, Repr

/-- A parked SYNC_WAIT (R158). -/
structure Wait where
  key : RetryKey
  target : FrameNo
  deriving DecidableEq, Repr

/-- The reply of a wait that has fallen due (R159, R160, R162). -/
structure DueReply where
  wait : Wait
  status : Status
  frame : FrameNo
  deriving DecidableEq, Repr

/-- The engine state (R151). -/
inductive EngineState where
  | running
  | restarting
  deriving DecidableEq, Repr

/-- The request engine's state (10, its state table); `restartReply` is the RESTART reply that has been formed and waits for a
place (R162). -/
structure Engine where
  state : EngineState
  requests : List Request
  refusal : Option Reply
  cache : List CacheEntry
  waits : List Wait
  due : List DueReply
  restartReply : Option Reply
  deriving DecidableEq, Repr

/-- The events (11, section 11.7), less CAPTURE_BATCH, which does not pass through the event queue (R129). -/
inductive Event where
  | ready (cause : ReadyCause)
  | trackerState (old new : TrackState) (cause : TrackCause) (frame : FrameNo)
  | realigned (newFrame cutFrame : FrameNo) (cutLength discarded : Nat)
  | committed (frame : FrameNo) (active : BankId) (length : Nat) (cause : Cause)
  | action (frame : FrameNo) (offset : Nat) (lane : Lane) (action : Action) (tag : Option Nat) (squeezed : Bool) (bank : BankId)
  | safeEntered (cause : SafeCause) (frame : FrameNo) (offset : Nat)
  | safeReleased (frame : FrameNo) (offset : Nat)
  deriving DecidableEq, Repr

/-- The outbound arbiter's state (10, its state table). -/
structure Arbiter where
  replies : List Reply
  events : List Event
  lost : Nat
  deriving DecidableEq, Repr

/-! ### Pins, the present tick, and the whole -/

/-- The device's phase (R14): held in reset, locking the synthesizer (with the cause READY will carry), or running. -/
inductive Phase where
  | reset
  | locking (cause : ReadyCause)
  | running
  deriving DecidableEq, Repr

/-- The pins the outside world drives, the rising edge of FRAME_IN that waits to be sampled at the next tick (R19), and the
output pins' levels at the tick before (R91). -/
structure Pins where
  supply : Bool
  resetN : Level
  safeN : Level
  inputs : Lanes Level
  frameInEdge : Bool
  outputsBefore : Lanes PinLevel
  deriving DecidableEq, Repr

/-- The blocks that raise events (R165). -/
inductive Source where
  | tracker
  | store
  | executor
  | safe
  deriving DecidableEq, Repr

/-- The events that each block has raised at the present tick and that have not entered the event queue yet, in the block's own
order: they enter one at a time, in either order between blocks (R165). -/
structure Handed where
  tracker : List Event
  store : List Event
  executor : List Event
  safe : List Event
  deriving DecidableEq, Repr

/-- A pulse taken before the boundary of its tick (R22): none; held for it; or already applied, because a TRACK_CONFIG was
taken after it (R36). -/
inductive PulseHold where
  | none
  | held
  | applied
  deriving DecidableEq, Repr

/-- One firing: the entry, the frame it fires for, the bank it stands in, and whether it is squeezed (R86). -/
structure Firing where
  entry : Entry
  frame : FrameNo
  bank : BankId
  squeezed : Bool
  deriving DecidableEq, Repr

/-- What the arbiter's choice finds (R166): nothing; a message, which stays until it is sent; or the capture source alone, whose
readiness a flush may take away before the batch is formed (R128, R132). -/
inductive Turn where
  | nothing
  | message
  | batch
  deriving DecidableEq, Repr

/-- What TIME_READ reads of the timebase (frame, offset, renumber), of the tracker (its state) and of the schedule store (R16);
the tracker's mode is left out, since only a request changes it, and one request is dispatched at a tick (R153). -/
structure ReadView where
  frame : FrameNo
  offset : Nat
  renumber : Option FrameNo
  state : TrackState
  active : BankId
  commit : CommitState
  deriving DecidableEq, Repr

/-- The model's record of what has been taken at the present tick (log 6). -/
structure TickFlags where
  /-- this tick is the one at which the offset would reach P, and its boundary has not been taken (R2) -/
  boundaryDue : Bool
  /-- the pulse taken before that boundary (R22) -/
  pulseHeld : PulseHold
  /-- a rising edge sampled at this tick has not been taken yet -/
  edgeNow : Bool
  /-- a pulse has been taken at this tick: there is at most one (R19) -/
  pulseTaken : Bool
  /-- the tick's offset inside the running frame has been used, so that no pulse can end the frame at this tick any more -/
  settled : Bool
  /-- the number of the frame that begins at this tick has been used before its boundary (R9, R22) -/
  stamped : Bool
  /-- the COMMITTED event of this tick's boundary has entered the event queue (R6, R73) -/
  reported : Bool
  /-- what TIME_READ would have read before this tick's boundary, once the boundary has been taken (R17, log 24) -/
  readBefore : Option ReadView
  /-- the tracker state when the tick began, for the lanes taken before a change of it at this tick (R115) -/
  stateBefore : TrackState
  /-- the miss of this tick has been judged (R27) -/
  missJudged : Bool
  /-- a request has been dispatched at this tick: at most one is (R153) -/
  dispatched : Bool
  /-- SAFE_N has been sampled at this tick (R98) -/
  safeSampled : Bool
  /-- RXD has been sampled at this tick with a level that arms the receiver, starts a character or ends one (R136, R149) -/
  rxdSampled : Bool
  /-- bit n: lane n has been sampled at this tick (R110) -/
  sampled : BitVec 16
  /-- the RESTART reply has been sent at this tick and the restart has not been taken (R163) -/
  restartDue : Bool
  /-- on the restart tick: the frame that waited for its CRC low byte when the restart took effect (R150) -/
  oldParser : Option Parser
  /-- the events raised at this tick that have not entered the event queue (R165) -/
  handed : Handed
  /-- the firings of this tick's boundary that have not been made (R76, R84) -/
  waiting : List Firing
  /-- what the arbiter had to give when the transmitter was first idle at this tick, so that its choice of the tick finds one;
  nothing where a flush has taken it away (R128, R166, log 22) -/
  sendOwed : Turn
  /-- the conditions of a dispatch have held since the tick began but for due replies being placed, so one is made at it; not so
  where a due reply has taken the room it needs (R153, log 22) -/
  dispatchOwed : Bool
  deriving DecidableEq, Repr

/-- The state of the HZ4160. -/
structure State where
  phase : Phase
  pins : Pins
  tb : Timebase
  tracker : Tracker
  store : Store
  exec : Executor
  lanes : Lanes OutLane
  safe : Safe
  capture : Capture
  cq : CaptureQueue
  link : Link
  engine : Engine
  arb : Arbiter
  flags : TickFlags
  choices : Nat
  pending : List Instr
  deriving DecidableEq, Repr

/-- The reasons for which the device stops: none. The spec names no condition that stops it; every error is a status, a
counter or an event (safe and not safe do not arise). -/
inductive Fault where
  deriving DecidableEq, Repr

/-- The reasons for which the model has no meaning for a command. -/
inductive Refusal where
  /-- raised by `exec` for a command whose meaning is not written; safe (the model stops where the device goes on) -/
  | notModelled (mnemonic : String)
  deriving DecidableEq, Repr

/-! ### Reset values -/

/-- The timebase at lock and at the restart tick (R14, R15). -/
def Timebase.reset : Timebase where
  tick := 0
  frame := 0
  offset := 0
  startLen := Config.resetLength
  planned := Config.resetLength
  start := 0
  prev := none
  renumber := none
  outTimer := Config.frameOutTicks
  frameOut := true

/-- The tracker at every reset (R39). -/
def Tracker.reset : Tracker where
  mode := .localMode
  state := .free
  w := 16
  acqCount := 3
  missLimit := 2
  holdoverLimit := 1000
  window := 16
  candidate := none
  corrected := false
  misses := 0
  holdover := 0
  strays := 0
  realignments := 0
  lastCorrection := 0

/-- A bank at every reset (R59, R60). -/
def Bank.reset : Bank where
  length := Config.resetLength
  entries := []

/-- The schedule store at every reset (R59, R60). -/
def Store.reset : Store where
  bankA := Bank.reset
  bankB := Bank.reset
  active := .a
  commit := .idle

/-- The executor at every reset (R88). -/
def Executor.reset : Executor where
  bank := .a
  frame := 0
  cursor := 0
  discard := 0

/-- A lane record at every reset (R104). -/
def OutLane.reset : OutLane where
  mode := .off
  level := .low
  pulseEnd := none
  safe := .low
  hold := .highImpedance

/-- The safe control at every reset (R104). -/
def Safe.reset : Safe where
  latch := none
  qualified := .high
  candidate := none

/-- An empty latch record; the fields not reported while it is empty are the model's choice (R118, log 4). -/
def LatchRecord.reset : LatchRecord where
  present := false
  edge := .rise
  frame := 0
  offset := 0
  quality := .free
  overwritten := false

/-- A capture lane at every reset, its qualified level being the level of its pin (R121). -/
def InLane.reset (pin : Level) : InLane where
  edge := .off
  deglitch := 0
  gate := none
  delivery := .queue
  qualified := pin
  candidate := none
  latch := LatchRecord.reset

/-- The capture lanes at every reset (R121). -/
def Capture.reset (inputs : Lanes Level) : Capture where
  lanes := inputs.map InLane.reset
  seq := 0

/-- The capture queue at every reset (R134, R135). -/
def CaptureQueue.reset : CaptureQueue where
  records := []
  credit := 0
  lost := 0

/-- The parser in HUNT with no frame in progress (R149, R150); the values of the fields of a frame are then the model's choice,
and nothing reads them (log 26). -/
def Parser.hunt : Parser where
  state := .hunt
  length := 0
  kind := 0
  tag := 0
  body := []
  crc := 0xFFFF
  crcHigh := 0

/-- The link counters after power-on and RESET_N (R146). -/
def Counters.zero : Counters where
  framesOk := 0
  crcErrors := 0
  lengthErrors := 0
  framingErrors := 0
  timeouts := 0
  busyDropped := 0

/-- The link port at lock (R149). -/
def Link.reset (baud : Baud) : Link where
  baud := baud
  receiver := .waitingHigh
  character := .idle
  parser := Parser.hunt
  gap := none
  transmitter := .idle
  counters := Counters.zero

/-- The request engine at lock (R169); a restart keeps the cache (R163). -/
def Engine.reset (cache : List CacheEntry) : Engine where
  state := .running
  requests := []
  refusal := none
  cache := cache
  waits := []
  due := []
  restartReply := none

/-- The outbound arbiter at lock and at the restart tick, with READY queued (R163, R167, R169). -/
def Arbiter.reset (cause : ReadyCause) : Arbiter where
  replies := []
  events := [.ready cause]
  lost := 0

/-- No event waiting to enter the event queue. -/
def Handed.empty : Handed where
  tracker := []
  store := []
  executor := []
  safe := []

/-- Nothing taken at a tick yet; the edge of FRAME_IN that this tick samples, and the tracker state it begins with. -/
def TickFlags.fresh (edgeNow : Bool) (stateBefore : TrackState) : TickFlags where
  boundaryDue := false
  pulseHeld := .none
  edgeNow := edgeNow
  pulseTaken := false
  settled := false
  stamped := false
  reported := false
  readBefore := none
  stateBefore := stateBefore
  missJudged := false
  dispatched := false
  safeSampled := false
  rxdSampled := false
  sampled := 0
  restartDue := false
  oldParser := none
  handed := Handed.empty
  waiting := []
  sendOwed := .nothing
  dispatchOwed := false

/-- The tick of lock and the restart tick: sampling of SAFE_N and of the inputs runs from the next tick (R105, R121), and that
of RXD too after lock (R149). -/
def TickFlags.start : TickFlags :=
  { TickFlags.fresh false .free with safeSampled := true, rxdSampled := true, sampled := 0xFFFF }

/-- The pins right after reset: supply valid and RESET_N high (R14), outputs high-impedance before (R14); the levels of the
other inputs are the model's choice (log 4). -/
def Pins.reset : Pins where
  supply := true
  resetN := .high
  safeN := .high
  inputs := Lanes.fill .low
  frameInEdge := false
  outputsBefore := Lanes.fill .highImpedance

/-- The machine right after reset: the moment of lock after power-on (R14 and the reset tables of the chapters). -/
def State.reset : State where
  phase := .running
  pins := Pins.reset
  tb := Timebase.reset
  tracker := Tracker.reset
  store := Store.reset
  exec := Executor.reset
  lanes := Lanes.fill OutLane.reset
  safe := Safe.reset
  capture := Capture.reset Pins.reset.inputs
  cq := CaptureQueue.reset
  link := Link.reset .b115200
  engine := Engine.reset []
  arb := Arbiter.reset .power
  flags := TickFlags.start
  choices := 0
  pending := []

end Sys2Proof.Machine
end

