-- ==== Sys2Proof/Machine/Operands.lean ====
section
/-! DEFINITION. The operand forms: how numbers, codes, entries, capture records and events are written in message bodies, and
how the fields of request bodies are read (11, Message Formats). -/

namespace Sys2Proof.Machine

/-! ### Numbers (R170) -/

/-- A number in 1, 2, 3 or 4 bytes, most significant byte first (R170). -/
def be1 (n : Nat) : List Byte := [BitVec.ofNat 8 n]
def be2 (n : Nat) : List Byte := BitVec.ofNat 8 (n / 256) :: be1 n
def be3 (n : Nat) : List Byte := BitVec.ofNat 8 (n / 65536) :: be2 n
def be4 (n : Nat) : List Byte := BitVec.ofNat 8 (n / 16777216) :: be3 n

/-- The number that bytes write, most significant byte first (R170). -/
def beNat (bytes : List Byte) : Nat := bytes.foldl (fun n b => n * 256 + b.toNat) 0

/-- A signed number in two's complement over 2 bytes (R170). -/
def be2Signed (n : Int) : List Byte := be2 (BitVec.ofInt 16 n).toNat

/-- A frame number (R170). -/
def frameBytes (f : FrameNo) : List Byte := be4 f.toNat

/-- An item preceded by a presence byte, its value bytes 0 when absent (R170). -/
def present (write : Nat → List Byte) : Option Nat → List Byte
  | some n => 1 :: write n
  | none => 0 :: write 0

/-! ### Codes written by the device (11, sections 11.2 and 11.8) -/

def flagCode (b : Bool) : Byte := if b then 1 else 0

def BankId.code : BankId → Byte
  | .a => 0
  | .b => 1

def Action.code : Action → Byte
  | .set => 0
  | .clear => 1
  | .toggle => 2
  | .pulse => 3

def TrackMode.code : TrackMode → Byte
  | .localMode => 0
  | .externalMode => 1

def TrackState.code : TrackState → Byte
  | .free => 0
  | .acquire => 1
  | .locked => 2
  | .holdover => 3
  | .lost => 4

def TrackCause.code : TrackCause → Byte
  | .pulse => 0
  | .miss => 1
  | .holdoverLimit => 2
  | .realign => 3
  | .length => 4
  | .config => 5

def Cause.code : Cause → Byte
  | .nominal => 0
  | .early => 1
  | .cut => 2

def LaneMode.code : LaneMode → Byte
  | .off => 0
  | .scheduled => 1
  | .forcedHigh => 2
  | .forcedLow => 3

def SafeLevel.code : SafeLevel → Byte
  | .low => 0
  | .high => 1
  | .hold => 2
  | .off => 3

def PinLevel.code : PinLevel → Byte
  | .low => 0
  | .high => 1
  | .highImpedance => 2

def levelCode : Level → Byte
  | .low => 0
  | .high => 1

/-- The safe latch: CLEAR, SET with cause INPUT, SET with cause REQUEST. -/
def latchCode : Option SafeCause → Byte
  | none => 0
  | some .input => 1
  | some .request => 2

def SafeCause.code : SafeCause → Byte
  | .input => 0
  | .request => 1

/-- The SAFE_N qualified state: DEASSERTED is HIGH, ASSERTED is LOW. -/
def safeNCode : Level → Byte
  | .high => 0
  | .low => 1

def EdgeSetting.code : EdgeSetting → Byte
  | .off => 0
  | .rise => 1
  | .fall => 2
  | .both => 3

def EdgeDir.code : EdgeDir → Byte
  | .rise => 0
  | .fall => 1

def Delivery.code : Delivery → Byte
  | .queue => 0
  | .latch => 1

def ReadyCause.code : ReadyCause → Byte
  | .power => 0
  | .pin => 1
  | .restart => 2

def Baud.code : Baud → Byte
  | .b115200 => 0
  | .b460800 => 1
  | .b1000000 => 2
  | .b3000000 => 3

/-- The bit rate (R138). -/
def Baud.rate : Baud → Nat
  | .b115200 => 115200
  | .b460800 => 460800
  | .b1000000 => 1000000
  | .b3000000 => 3000000

/-- The baud that the straps BAUD1 and BAUD0 select (R138). -/
def Baud.ofStraps : Level → Level → Baud
  | .low, .low => .b115200
  | .low, .high => .b460800
  | .high, .low => .b1000000
  | .high, .high => .b3000000

def Status.code : Status → Byte
  | .ok => 0x00
  | .busy => 0x01
  | .unknownKind => 0x02
  | .badLength => 0x03
  | .badValue => 0x04
  | .duplicate => 0x05
  | .bankFull => 0x06
  | .notFound => 0x07
  | .frozen => 0x08
  | .commitPending => 0x09
  | .renumberPending => 0x0A
  | .notPending => 0x0B
  | .late => 0x0C
  | .wrongMode => 0x0D
  | .safeActive => 0x0E
  | .safeInputActive => 0x0F
  | .waitFull => 0x10
  | .aborted => 0x11
  | .renumbered => 0x12
  | .empty => 0x13

/-- The byte written for an absent one-byte item (R170). -/
def absentByte : Byte := 0xFF

/-! ### Codes read from request bodies (R171) -/

def readFlag (b : Byte) : Option Bool :=
  if b = 0 then some false else if b = 1 then some true else none

def readBank (b : Byte) : Option BankId :=
  if b = 0 then some .a else if b = 1 then some .b else none

def readMode (b : Byte) : Option TrackMode :=
  if b = 0 then some .localMode else if b = 1 then some .externalMode else none

def readAction (b : Byte) : Option Action :=
  if b = 0 then some .set else if b = 1 then some .clear else if b = 2 then some .toggle else if b = 3 then some .pulse
  else none

/-- The lane of a lane byte, where it is 0 to 15 (R171). -/
def readLane (b : Byte) : Option Lane :=
  if h : b.toNat < 16 then some ⟨b.toNat, h⟩ else none

/-- LANE_CONFIG's mode: only OFF and SCHEDULED are in range (R92). -/
def readLaneMode (b : Byte) : Option LaneMode :=
  if b = 0 then some .off else if b = 1 then some .scheduled else none

def readSafeLevel (b : Byte) : Option SafeLevel :=
  if b = 0 then some .low else if b = 1 then some .high else if b = 2 then some .hold else if b = 3 then some .off else none

/-- LANE_CONFIG's initial level: 0, 1 or KEEP, which is the inner absence (R92). -/
def readInitial (b : Byte) : Option (Option Level) :=
  if b = 0 then some (some .low) else if b = 1 then some (some .high) else if b = 2 then some none else none

/-- LANE_FORCE's level, as the forced mode it gives (R94). -/
def readForce (b : Byte) : Option LaneMode :=
  if b = 0 then some .forcedLow else if b = 1 then some .forcedHigh else none

def readEdge (b : Byte) : Option EdgeSetting :=
  if b = 0 then some .off else if b = 1 then some .rise else if b = 2 then some .fall else if b = 3 then some .both else none

def readDelivery (b : Byte) : Option Delivery :=
  if b = 0 then some .queue else if b = 1 then some .latch else none

/-! ### Request kinds (R174) -/

def ReqKind.all : List ReqKind :=
  [.identify, .linkStats, .restart, .syncWait, .timeRead, .frameRenumber, .trackConfig, .trackStatus, .entryAdd,
   .entryRemove, .bankClear, .bankCopy, .bankLength, .bankRead, .commit, .commitCancel, .laneConfig, .laneForce,
   .laneRelease, .laneStatus, .safeEnter, .safeRelease, .inputConfig, .latchRead, .captureGrant, .captureFlush,
   .captureStatus]

/-- The KIND byte of a request kind (R174). -/
def ReqKind.code : ReqKind → Byte
  | .identify => 0x01
  | .linkStats => 0x02
  | .restart => 0x03
  | .syncWait => 0x04
  | .timeRead => 0x10
  | .frameRenumber => 0x11
  | .trackConfig => 0x12
  | .trackStatus => 0x13
  | .entryAdd => 0x20
  | .entryRemove => 0x21
  | .bankClear => 0x22
  | .bankCopy => 0x23
  | .bankLength => 0x24
  | .bankRead => 0x25
  | .commit => 0x26
  | .commitCancel => 0x27
  | .laneConfig => 0x30
  | .laneForce => 0x31
  | .laneRelease => 0x32
  | .laneStatus => 0x33
  | .safeEnter => 0x34
  | .safeRelease => 0x35
  | .inputConfig => 0x38
  | .latchRead => 0x39
  | .captureGrant => 0x3A
  | .captureFlush => 0x3B
  | .captureStatus => 0x3C

/-- The body length each request kind requires (R174). -/
def ReqKind.bodyLength : ReqKind → Nat
  | .identify | .restart | .timeRead | .bankClear | .bankCopy | .commitCancel | .safeEnter | .safeRelease | .captureFlush
  | .captureStatus => 0
  | .linkStats | .trackStatus | .laneRelease | .laneStatus | .latchRead => 1
  | .laneForce | .captureGrant => 2
  | .bankLength | .bankRead => 3
  | .syncWait | .frameRenumber | .entryRemove | .laneConfig => 4
  | .commit => 5
  | .trackConfig => 7
  | .inputConfig => 11
  | .entryAdd => 13

/-- The request kind of a KIND byte, if it is one (R155, R174). -/
def ReqKind.ofCode (b : Byte) : Option ReqKind := ReqKind.all.find? fun k => k.code == b

/-- The kind of every reply: the request's kind plus 0x40 (R154). -/
def replyKind (kind : Byte) : Byte := kind + 0x40

/-- The kind of the reply to a kind that is no request kind (R155). -/
def unknownReplyKind : Byte := 0x7F

/-! ### The schedule entry (R172) -/

/-- An entry in 13 bytes; an absent width is 0, an absent tag has tag flag 0 and tag bytes 0 (R172). -/
def Entry.bytes (e : Entry) : List Byte :=
  be3 e.offset ++ be1 e.lane.val ++ [e.action.code] ++ be2 (e.width.getD 0) ++ be1 e.period ++ be1 e.phase
    ++ [flagCode e.notify] ++ present be2 e.tag

/-- The periods an entry may have (R41). -/
def periods : List Nat := [1, 2, 4, 8, 16, 32, 64]

/-- Whether an entry is in range for a bank of frame length L: the rows of R48, with R42's two optional fields. -/
def Entry.valid (length : Nat) (e : Entry) : Bool :=
  decide (e.offset < length)
    && (match e.action, e.width with
        | .pulse, some w => decide (0 < w ∧ w < 65536)
        | .pulse, none => false
        | .set, none | .clear, none | .toggle, none => true
        | .set, some _ | .clear, some _ | .toggle, some _ => false)
    && periods.contains e.period
    && decide (e.phase < e.period)
    && (match e.tag with
        | some t => e.notify && decide (t < 65536)
        | none => true)

/-- The entry that 13 bytes write, if every code names a value of its field (R171, R172); its ranges are not yet judged. -/
def readEntry : List Byte → Option Entry
  | [o2, o1, o0, lane, action, w1, w0, period, phase, notify, tagFlag, t1, t0] =>
    match readLane lane, readAction action, readFlag notify, readFlag tagFlag with
    | some lane, some action, some notify, some tagged =>
      some
        { offset := beNat [o2, o1, o0]
          lane := lane
          action := action
          width := if beNat [w1, w0] = 0 then none else some (beNat [w1, w0])
          period := period.toNat
          phase := phase.toNat
          notify := notify
          tag := if tagged then some (beNat [t1, t0]) else none }
    | _, _, _, _ => none
  | _ => none

/-! ### The capture record and the batch (R173) -/

/-- A capture record in 13 bytes (R173). -/
def CaptureRecord.bytes (r : CaptureRecord) : List Byte :=
  be1 r.lane.val ++ [r.edge.code] ++ be2 r.seq.toNat ++ frameBytes r.frame ++ be4 r.offset ++ [r.quality.code]

/-- The body of CAPTURE_BATCH: record count, lost count, the records (R173). -/
def batchBody (records : List CaptureRecord) (lost : Nat) : List Byte :=
  be1 records.length ++ be2 lost ++ records.flatMap CaptureRecord.bytes

/-- The kind of CAPTURE_BATCH (R176). -/
def batchKind : Byte := 0x90

/-! ### Events (R176) -/

def Event.kind : Event → Byte
  | .ready _ => 0x80
  | .trackerState _ _ _ _ => 0x81
  | .realigned _ _ _ _ => 0x82
  | .committed _ _ _ _ => 0x83
  | .action _ _ _ _ _ _ _ => 0x84
  | .safeEntered _ _ _ => 0x85
  | .safeReleased _ _ => 0x86

/-- The fields of an event, after its events-lost field (R176). -/
def Event.fields : Event → List Byte
  | .ready cause => [cause.code]
  | .trackerState old new cause frame => [old.code, new.code, cause.code] ++ frameBytes frame
  | .realigned newFrame cutFrame cutLength discarded =>
    frameBytes newFrame ++ frameBytes cutFrame ++ be3 cutLength ++ be2 discarded
  | .committed frame active length cause => frameBytes frame ++ [active.code] ++ be3 length ++ [cause.code]
  | .action frame offset lane act tag squeezed bank =>
    frameBytes frame ++ be3 offset ++ be1 lane.val ++ [act.code] ++ present be2 tag ++ [flagCode squeezed, bank.code]
  | .safeEntered cause frame offset => [cause.code] ++ frameBytes frame ++ be4 offset
  | .safeReleased frame offset => frameBytes frame ++ be4 offset

/-- The body of an event frame: the events-lost field and the fields (R176). -/
def Event.body (lost : Nat) (e : Event) : List Byte := be2 lost ++ e.fields

/-! ### Reply bodies (R175) -/

/-- A reply body: the status and the items (R154). -/
def body (status : Status) (items : List Byte) : List Byte := status.code :: items

/-- The body of a wait's reply, and of a SYNC_WAIT refused: target and frame number (R158, R175). -/
def waitItems (target frame : FrameNo) : List Byte := frameBytes target ++ frameBytes frame

/-- The fixed items of IDENTIFY (R168, R175). -/
def identifyItems : List Byte :=
  be2 Config.partCode ++ be1 Config.revision ++ be1 16 ++ be1 16 ++ be2 Config.bankPlaces ++ be2 Config.capturePlaces
    ++ be1 Config.requestPlaces ++ be1 Config.cachePlaces ++ be1 Config.waitPlaces ++ be1 Config.eventPlaces

/-- The items of LINK_STATS (R147, R175). -/
def linkItems (c : Counters) (baud : Baud) : List Byte :=
  be2 c.framesOk ++ be2 c.crcErrors ++ be2 c.lengthErrors ++ be2 c.framingErrors ++ be2 c.timeouts ++ be2 c.busyDropped
    ++ [baud.code]

/-- The items of TRACK_STATUS (R38, R175). -/
def trackStatusItems (t : Tracker) : List Byte :=
  [t.mode.code, t.state.code] ++ be2 t.misses ++ be2 t.holdover ++ be2 t.strays ++ be2 t.realignments
    ++ be2Signed t.lastCorrection

/-- The items of TIME_READ (R16, R175). -/
def timeItems (mode : TrackMode) (v : ReadView) : List Byte :=
  frameBytes v.frame ++ be4 v.offset ++ [mode.code, v.state.code, v.active.code]
    ++ (match v.commit with
        | .idle => 0 :: be4 0
        | .pending target => 1 :: frameBytes target)
    ++ present be4 (v.renumber.map BitVec.toNat)

/-- The capture items of an input configuration, the gate bytes 0 when the gate is absent (R175). -/
def inLaneItems (lane : Lane) (c : InLane) : List Byte :=
  be1 lane.val ++ [c.edge.code] ++ be1 c.deglitch
    ++ (match c.gate with
        | none => 0 :: (be3 0 ++ be3 0)
        | some g => 1 :: (be3 g.first ++ be3 g.last))
    ++ [c.delivery.code, levelCode c.qualified]

end Sys2Proof.Machine
end

