-- ==== Sys2Proof/Machine/Flags.lean ====
section
/-! DEFINITION. What is computed from the state and not stored: the CRC, bit times, timestamps, target distances, pin levels,
and the conditions under which each event is due at the present tick. -/

namespace Sys2Proof.Machine

/-! ### The CRC (R140) and the frame (R139) -/

/-- One bit into the CRC register (R140, step 2). -/
def crcBit (crc : BitVec 16) (bit : Bool) : BitVec 16 :=
  if crc.msb = bit then crc <<< 1 else (crc <<< 1) ^^^ 0x1021

/-- One byte into the CRC register, most significant bit first (R140). -/
def crcByte (crc : BitVec 16) (b : Byte) : BitVec 16 :=
  [7, 6, 5, 4, 3, 2, 1, 0].foldl (fun c i => crcBit c (b.getLsbD i)) crc

/-- The CRC of the covered bytes (R140). -/
def crcOf (bytes : List Byte) : BitVec 16 := bytes.foldl crcByte 0xFFFF

/-- A whole outbound frame: SYNC, LEN, KIND, TAG, BODY, CRC high, CRC low (R139, R140). -/
def frameOf (kind tag : Byte) (body : List Byte) : List Byte :=
  let covered := BitVec.ofNat 8 body.length :: kind :: tag :: body
  Config.syncByte :: (covered ++ be2 (crcOf covered).toNat)

/-! ### Bit times (R136, R137, log 13) -/

/-- The tick nearest to a time of `a / b` ticks; where two are equally near, the free value decides (log 13). -/
def nearest (a b : Nat) : Nat :=
  if (2 * a + b) % (2 * b) = 0 then
    if Config.tieUp then (2 * a + b) / (2 * b) else (2 * a + b) / (2 * b) - 1
  else (2 * a + b) / (2 * b)

/-- The tick, counted from the start of a frame, on which the end of its n-th bit time is placed (R137). -/
def bitTick (baud : Baud) (n : Nat) : Nat := nearest (n * Config.tickRate) baud.rate

/-- The tick, counted from a start bit's falling edge, on which the middle of bit time `n` is sampled, the start bit being bit
time 0 (R136). -/
def middleTick (baud : Baud) (n : Nat) : Nat := nearest ((2 * n + 1) * Config.tickRate) (2 * baud.rate)

/-- Whether the next start edge may be sampled `e` ticks after a start edge: the character's ten bit times, at the earliest that
the rate of a host within 2% of the selected baud allows, have ended less than one tick after it, and each edge is first sampled
less than a tick late (R136, log 12). -/
def stopBitOver (baud : Baud) (e : Nat) : Bool := decide (1000 * Config.tickRate < 102 * (e + 1) * baud.rate)

/-- The bit times that have ended `e` ticks after the start of a frame of `total` bit times: the greatest n for which
`bitTick baud n ≤ e`, at most `total`. -/
def bitsDone (baud : Baud) (e : Nat) : Nat → Nat
  | 0 => 0
  | n + 1 => if bitTick baud (n + 1) ≤ e then n + 1 else bitsDone baud e n

/-- The ticks since a tick time. -/
def elapsed (tb : Timebase) (t : Tick) : Nat := (tb.tick - t).toNat

/-! ### Timestamps (R9) and target distance (R10) -/

/-- The timestamp of a tick time from the two frame records (R9, the table row by row). -/
def stampOf (tb : Timebase) (t : Tick) : FrameNo × Nat :=
  if tb.start ≤ t then (tb.frame, (t - tb.start).toNat)
  else
    match tb.prev with
    | some p => if p.start ≤ t then (p.frame, (t - p.start).toNat) else (p.frame, 0)
    | none => (tb.frame, 0)

/-- The target distance of F from C (R10). -/
def distance (target current : FrameNo) : Nat := (target - current).toNat

/-- The number that the next frame takes as things stand (R7). -/
def nextNumber (s : State) : FrameNo := s.tb.renumber.getD (s.tb.frame + 1)

/-- The judgement of a target distance: no status when it is accepted (R10). -/
def judge (target current : FrameNo) : Option Status :=
  let d := distance target current
  if d = 0 then some .late
  else if d ≤ Config.maxDistance then none
  else if d < Config.pastDistance then some .badValue
  else some .late

/-! ### Output pins (R13, R90, R137) -/

/-- The pin level of a level. -/
def pinOf : Level → PinLevel
  | .low => .low
  | .high => .high

/-- The safe behaviour of a lane (R90). -/
def OutLane.safeBehaviour (l : OutLane) : PinLevel :=
  match l.safe with
  | .low => .low
  | .high => .high
  | .hold => l.hold
  | .off => .highImpedance

/-- The level a lane record and the safe latch make (R90). -/
def OutLane.pin (latch : Option SafeCause) (l : OutLane) : PinLevel :=
  match l.mode, latch with
  | .off, _ => .highImpedance
  | .scheduled, none => pinOf l.level
  | .forcedHigh, none => .high
  | .forcedLow, none => .low
  | .scheduled, some _ | .forcedHigh, some _ | .forcedLow, some _ => l.safeBehaviour

/-- The levels of OUT0 to OUT15: high-impedance outside the running device (R14, R90). -/
def outPins (s : State) : Lanes PinLevel :=
  match s.phase with
  | .running => s.lanes.map (OutLane.pin s.safe.latch)
  | .reset | .locking _ => Lanes.fill .highImpedance

/-- The level of one output pin (R90). -/
def outPin (s : State) (lane : Lane) : PinLevel := (outPins s).get lane

/-- The level of FRAME_OUT (R13, R14). -/
def frameOutPin (s : State) : PinLevel :=
  match s.phase with
  | .running => if s.tb.frameOut then .high else .low
  | .reset | .locking _ => .highImpedance

/-- The level of a character's n-th bit time: start bit low, eight data bits least significant first, stop bit high
(R137). -/
def charBit (b : Byte) (n : Nat) : Level :=
  if n = 0 then .low else if n ≤ 8 then (if b.getLsbD (n - 1) then .high else .low) else .high

/-- The level of TXD (R14, R137). -/
def txdPin (s : State) : PinLevel :=
  match s.phase with
  | .reset | .locking _ => .highImpedance
  | .running =>
    match s.link.transmitter with
    | .idle => .high
    | .sending frame start _ =>
      let n := bitsDone s.link.baud (elapsed s.tb start) (10 * frame.length)
      match frame[n / 10]? with
      | some b => pinOf (charBit b (n % 10))
      | none => .high

/-! ### Schedule (R40, R77) -/

def BankId.other : BankId → BankId
  | .a => .b
  | .b => .a

/-- A bank record by its id (R40). -/
def Store.bank (st : Store) : BankId → Bank
  | .a => st.bankA
  | .b => st.bankB

/-- The bank whose role is ACTIVE, and the one whose role is SHADOW (R40). -/
def Store.activeBank (st : Store) : Bank := st.bank st.active
def Store.shadowId (st : Store) : BankId := st.active.other
def Store.shadow (st : Store) : Bank := st.bank st.shadowId

/-- Whether an entry is selected in a frame (R77). -/
def Entry.selectedIn (frame : FrameNo) (e : Entry) : Bool := frame.toNat % e.period == e.phase

/-- Whether a key comes before another in a bank's order: offset, then lane (R43). -/
def keyBefore (o1 : Nat) (l1 : Lane) (o2 : Nat) (l2 : Lane) : Bool :=
  decide (o1 < o2) || (decide (o1 = o2) && decide (l1 < l2))

/-- The entries of the running frame not yet reached (R83). -/
def unreached (s : State) : List Entry := (s.store.bank s.exec.bank).entries.drop s.exec.cursor

/-! ### The present tick -/

/-- Whether the device is running (R14). -/
def running (s : State) : Bool := s.phase == .running

/-- Whether the tick's offset is settled: its boundary, if it is one, and its pulse, if one was sampled, have been taken. -/
def offsetReady (s : State) : Bool := running s && !s.flags.boundaryDue && !s.flags.edgeNow

/-! ### What a pulse at the present tick does (R22 to R30), and the timestamp of the tick (R9) -/

/-- A pulse in LOCKED or HOLDOVER would be late (R23). -/
def pulseLate (s : State) : Bool := decide (s.tb.offset ≤ s.tracker.window) && !s.tracker.corrected

/-- A pulse in LOCKED or HOLDOVER, where not late, would be early (R24). -/
def pulseEarly (s : State) : Bool := decide (s.tb.planned ≤ s.tb.offset + s.tracker.window)

/-- The acquisition candidate after a pulse at the present tick (R29). L is that of the frame that the timebase has running when
the pulse is taken: before the NOMINAL boundary of its tick, the frame that ends (log 28). -/
def nextCandidate (s : State) : Candidate :=
  match s.tracker.candidate with
  | none => ⟨s.tb.tick, 1⟩
  | some c =>
    let spacing := elapsed s.tb c.tick
    if s.tb.startLen ≤ spacing + s.tracker.w ∧ spacing ≤ s.tb.startLen + s.tracker.w then ⟨s.tb.tick, c.count + 1⟩
    else ⟨s.tb.tick, 1⟩

/-- A pulse at the present tick would realign (R29, R30). -/
def realigns (s : State) : Bool :=
  s.tracker.mode == .externalMode && s.tracker.state == .acquire && decide (s.tracker.acqCount ≤ (nextCandidate s).count)

/-- A pulse at the present tick would end the running frame inside its planned length, EARLY or CUT (R5, R6). -/
def pulseEnds (s : State) : Bool :=
  match s.tracker.mode, s.tracker.state with
  | .externalMode, .locked | .externalMode, .holdover => !pulseLate s && pulseEarly s
  | .externalMode, .acquire => realigns s && decide (s.tb.offset ≠ 0)
  | .externalMode, .lost | .externalMode, .free | .localMode, _ => false

/-- The present tick is going to be the first of a new frame: its NOMINAL boundary is due, or the pulse sampled at it is going
to end the frame. -/
def endsNow (s : State) : Bool := s.flags.boundaryDue || (s.flags.edgeNow && pulseEnds s)

/-- The timestamp of the present tick (R9): a tick that is going to be a boundary is offset 0 of the frame that begins (R2, R5,
R6), whether or not the boundary has been taken (log 27). -/
def presentStamp (s : State) : FrameNo × Nat := if endsNow s then (nextNumber s, 0) else (s.tb.frame, s.tb.offset)

/-- The timestamp of an edge (R113): at the tick of a boundary it is offset 0 of the frame that begins, whichever is taken
first; an earlier edge has the stamp that R9 gives from the frame records as they stand at its qualification, which differ before
and after the tick's CUT where the edge lies before the frame that is cut (the model's choice, log 29). -/
def edgeStamp (s : State) (t : Tick) : FrameNo × Nat := if t = s.tb.tick then presentStamp s else stampOf s.tb t

/-- A rising edge of FRAME_IN given at this tick is first sampled at the next one (log 8): a pulse has been taken at this tick
(R19); the tick's offset inside the frame has been used already; or the pulse would turn a boundary whose COMMITTED has
entered the event queue into a CUT (R6). An edge sampled at this tick already does not wait. -/
def edgeWaits (s : State) : Bool :=
  !s.flags.edgeNow &&
    (s.flags.pulseTaken || (s.flags.settled && decide (s.tb.offset ≠ 0)) || (s.flags.reported && realigns s))

/-- What TIME_READ reads of the blocks as they stand (R16), with the offset given. -/
def viewAt (offset : Nat) (s : State) : ReadView where
  frame := s.tb.frame
  offset := offset
  renumber := s.tb.renumber
  state := s.tracker.state
  active := s.store.active
  commit := s.store.commit

/-- What a TIME_READ reads of the blocks as they stand: where the pulse sampled at this tick is going to end the frame, the
offset before it, which is the frame's last (R16, R17). -/
def readNow (s : State) : ReadView :=
  viewAt (if !s.flags.boundaryDue && endsNow s then s.tb.offset - 1 else s.tb.offset) s

/-- A reading that takes each block on one side of its own action at the boundary (R17): `before` where its bit is set. -/
def mixViews (side : BitVec 3) (before now : ReadView) : ReadView :=
  let tb := if side.getLsbD 0 then before else now
  let tracker := if side.getLsbD 1 then before else now
  let store := if side.getLsbD 2 then before else now
  { frame := tb.frame, offset := tb.offset, renumber := tb.renumber
    state := tracker.state, active := store.active, commit := store.commit }

/-- What a TIME_READ dispatched now reads: on a boundary tick whose boundary has been taken, each block on a side that is a free
value (R17, log 24). -/
def readView (s : State) : ReadView :=
  match s.flags.readBefore with
  | none => readNow s
  | some before => mixViews (Config.readBefore s.choices s.tb.tick) before (readNow s)


/-- Whether the tracker follows the reference with windows: LOCKED or HOLDOVER (R23 to R27). -/
def Tracker.following (t : Tracker) : Bool := t.state == .locked || t.state == .holdover

/-- A miss is judged at this tick (R27). -/
def missDue (s : State) : Bool :=
  offsetReady s && s.tracker.following && decide (s.tb.offset = s.tracker.window + 1) && !s.tracker.corrected
    && !s.flags.missJudged

/-- The FRAME_OUT timer has reached 0 with the pin still high (R13). -/
def frameOutEndDue (s : State) : Bool := running s && decide (s.tb.outTimer = 0) && s.tb.frameOut

/-- Firings of this tick's boundary are still to be made (R76, R84), or the offset has reached the cursor entry's offset
(R76). -/
def entryFireDue (s : State) : Bool :=
  offsetReady s &&
    (!s.flags.waiting.isEmpty ||
      match unreached s with
      | e :: _ => decide (e.offset = s.tb.offset)
      | [] => false)

/-- A lane's pending pulse end is reached (R81). -/
def pulseEndDue (s : State) (lane : Lane) : Bool :=
  running s && decide ((s.lanes.get lane).pulseEnd = some s.tb.tick)

/-- A SAFE_N candidate completes its 100 ticks at this tick (R98). -/
def safeDue (s : State) : Bool :=
  running s && !s.flags.safeSampled &&
    match s.safe.candidate with
    | some c => decide (c.level = s.pins.safeN) && decide (s.tb.tick = c.start + BitVec.ofNat 64 Config.safeDeglitch)
    | none => false

/-- A lane's candidate completes its deglitch at this tick: it was sampled at its own level at this tick, or is going to be
(R110). -/
def laneDue (s : State) (lane : Lane) : Bool :=
  let l := s.capture.lanes.get lane
  match l.candidate with
  | some c =>
    decide (s.tb.tick = c.start + BitVec.ofNat 64 l.deglitch)
      && (s.flags.sampled.getLsbD lane.val || decide (c.level = s.pins.inputs.get lane))
  | none => false

/-- Some lane's edge is qualified at this tick (R110, R125), before the tick's boundary or after it (R113). -/
def edgesDue (s : State) : Bool := running s && allLanes.any (laneDue s)

/-- SAFE_N stands at a level that its control has not sampled yet, and sampling it would start or abandon a candidate
(R98). -/
def safeChangeDue (s : State) : Bool :=
  running s && !s.flags.safeSampled && (s.safe.candidate.isSome == decide (s.pins.safeN = s.safe.qualified))

/-- A pin stands at a level that its lane has not sampled yet, and sampling it would start or abandon a candidate (R110). -/
def inputChangeDue (s : State) (lane : Lane) : Bool :=
  let l := s.capture.lanes.get lane
  running s && !s.flags.sampled.getLsbD lane.val
    && (l.candidate.isSome == decide (s.pins.inputs.get lane = l.qualified))

/-! ### Link and engine -/

/-- The last stop bit of the frame being sent has ended (R148). -/
def sendEnded (s : State) : Bool :=
  match s.link.transmitter with
  | .sending frame start _ => decide (bitTick s.link.baud (10 * frame.length) ≤ elapsed s.tb start)
  | .idle => false

/-- This is the restart tick and the restart has not been taken: the RESTART reply's last stop bit has ended (R163). -/
def restartReady (s : State) : Bool :=
  running s &&
    (s.flags.restartDue ||
      match s.link.transmitter with
      | .sending _ _ restarts => restarts && sendEnded s
      | .idle => false)

/-- A character is being read, its byte not yet taken (R136). -/
def RxChar.isReading : RxChar → Bool
  | .reading _ => true
  | .idle | .stopping _ => false

/-- More than 64 bit times have passed since the last byte of the frame in progress, and no start bit holds the timeout off
(R144). -/
def timeoutDue (s : State) : Bool :=
  running s && !s.link.character.isReading && decide (s.link.parser.state ≠ .hunt) &&
    match s.link.gap with
    | some t => decide (Config.gapBits * Config.tickRate < elapsed s.tb t * s.link.baud.rate)
    | none => false

/-- The receiver takes characters (R136). -/
def receiving (s : State) : Bool := running s && s.link.receiver == .armed

/-- The receiver may see a falling edge that starts a character: none is under way, or the stop bit of the last one may have ended
(R136). -/
def lineFree (s : State) : Bool :=
  match s.link.character with
  | .idle => true
  | .reading _ => false
  | .stopping start => stopBitOver s.link.baud (elapsed s.tb start)

/-- This tick is the middle of bit time `n` of the character being read (R136). -/
def bitNow (n : Nat) (s : State) : Bool :=
  match s.link.character with
  | .reading start => decide (elapsed s.tb start = middleTick s.link.baud n)
  | .idle | .stopping _ => false

/-- A character's byte is taken at this tick, the middle of its stop bit (R136). -/
def itemNow (s : State) : Bool := receiving s && bitNow 9 s

/-- The capture source is ready (R128). -/
def captureReady (s : State) : Bool := decide (0 < s.cq.credit) && !s.cq.records.isEmpty

/-- A message is available to the arbiter: a refusal, a reply or an event (R166). -/
def messageReady (s : State) : Bool := s.engine.refusal.isSome || !s.arb.replies.isEmpty || !s.arb.events.isEmpty

/-- A source is available to the arbiter (R166). -/
def sourceReady (s : State) : Bool := messageReady s || captureReady s

/-- What the arbiter's choice finds as things stand (R166). -/
def turnOf (s : State) : Turn := if messageReady s then .message else if captureReady s then .batch else .nothing

/-- The arbiter may give the transmitter a frame (R166); not on the restart tick before the restart is taken (log 14). -/
def transmitDue (s : State) : Bool :=
  running s && s.link.transmitter == .idle && !restartReady s && sourceReady s

/-- The reply queue has the room that a request needs at its dispatch: a free place, and for a RESTART all of it (R153). -/
def roomFor (s : State) (r : Request) : Bool :=
  decide (s.arb.replies.length < Config.replyPlaces) && (r.kind != ReqKind.restart.code || s.arb.replies.isEmpty)

/-- The request that the conditions of a dispatch name (R153): the oldest one, where the five conditions hold and none has been
dispatched at this tick. -/
def openRequest (s : State) : Option Request :=
  if running s && s.engine.state == .running && !s.flags.dispatched && s.engine.due.isEmpty then
    s.engine.requests.head?.filter (roomFor s)
  else none

/-- A due reply waits and the reply queue has a free place (R161). -/
def dueReplyReady (s : State) : Bool :=
  running s && !s.engine.due.isEmpty && decide (s.arb.replies.length < Config.replyPlaces)

/-- Every firing and pulse end of this tick has been taken, as LANE_STATUS requires (R96). -/
def lanesQuiet (s : State) : Bool :=
  offsetReady s && !entryFireDue s && !allLanes.any (pulseEndDue s)

/-- The key by which a retry of a request is recognised (R157). -/
def Request.key (r : Request) : RetryKey := ⟨r.tag, r.kind, r.body.length, r.crc⟩

/-- The cached reply that a request with tag 1 to 255 matches (R157). -/
def cachedReply (r : Request) (e : Engine) : Option Reply :=
  if r.tag = 0 then none else (e.cache.find? fun c => decide (c.key = r.key)).map CacheEntry.reply

/-- Whether a request is absorbed by a parked wait (R154 step 2, R161). -/
def absorbed (r : Request) (e : Engine) : Bool := decide (r.tag ≠ 0) && e.waits.any fun w => decide (w.key = r.key)

/-- A request of a kind reaches the block that owns it: it is no retry and has the length of its kind (R154, step 5). -/
def reachesBlock (s : State) (k : ReqKind) (r : Request) : Bool :=
  (cachedReply r s.engine).isNone && !absorbed r s.engine && decide (r.body.length = k.bodyLength)

/-- What a request of a kind asks of its block cannot be done at this moment of the tick: a LANE_STATUS while a boundary, a sampled
pulse, a firing or a pulse end of the tick is still to be taken (R96, log 15); a FRAME_RENUMBER while the number of the frame that
begins at the tick has been used before its boundary, and a TRACK_CONFIG while a timestamp of the tick rests on what its sampled
pulse is going to do (R9, log 27). -/
def heldByBlock (s : State) : ReqKind → Bool
  | .laneStatus => !lanesQuiet s
  | .frameRenumber => s.flags.stamped && endsNow s
  | .trackConfig => s.flags.settled && s.flags.edgeNow
  | _ => false

/-- A request held to a later moment of this tick by the block that it would reach; one answered from the cache, absorbed or of a
wrong length reaches none and is not held (R154, R157, log 15). -/
def heldThisTick (s : State) (r : Request) : Bool :=
  (ReqKind.ofCode r.kind).any fun k => reachesBlock s k r && heldByBlock s k

/-- The request that the engine dispatches now (R153). -/
def dispatchable (s : State) : Option Request :=
  (openRequest s).filter fun r => !heldThisTick s r

end Sys2Proof.Machine
end

