-- ==== Sys2Proof/Machine/Ops.lean ====
section
/-! DEFINITION. The shared operations: raising an event, answering a request, storing a reply, the boundary with what each
block does at it, firing entries, setting the safe latch, starting a frame on TXD, and the resets. -/

namespace Sys2Proof.Machine

/-! ### One block replaced -/

def State.setPhase (s : State) (x : Phase) : State := { s with phase := x }
def State.setPins (s : State) (x : Pins) : State := { s with pins := x }
def State.setTb (s : State) (x : Timebase) : State := { s with tb := x }
def State.setTracker (s : State) (x : Tracker) : State := { s with tracker := x }
def State.setStore (s : State) (x : Store) : State := { s with store := x }
def State.setExec (s : State) (x : Executor) : State := { s with exec := x }
def State.setLanes (s : State) (x : Lanes OutLane) : State := { s with lanes := x }
def State.setSafe (s : State) (x : Safe) : State := { s with safe := x }
def State.setCapture (s : State) (x : Capture) : State := { s with capture := x }
def State.setCq (s : State) (x : CaptureQueue) : State := { s with cq := x }
def State.setLink (s : State) (x : Link) : State := { s with link := x }
def State.setEngine (s : State) (x : Engine) : State := { s with engine := x }
def State.setArb (s : State) (x : Arbiter) : State := { s with arb := x }
def State.setFlags (s : State) (x : TickFlags) : State := { s with flags := x }

/-! ### Events (R165) -/

/-- One event handed to the event queue: placed at the tail, or dropped and counted when 16 are queued (R165). -/
def Arbiter.raise (a : Arbiter) (e : Event) : Arbiter :=
  if a.events.length < Config.eventPlaces then { a with events := a.events ++ [e] }
  else { a with lost := satSucc a.lost }

/-- The events of one block that wait to enter the event queue. -/
def Handed.of (h : Handed) : Source → List Event
  | .tracker => h.tracker
  | .store => h.store
  | .executor => h.executor
  | .safe => h.safe

/-- The events of one block replaced. -/
def Handed.put (h : Handed) (events : List Event) : Source → Handed
  | .tracker => { h with tracker := events }
  | .store => { h with store := events }
  | .executor => { h with executor := events }
  | .safe => { h with safe := events }

/-- Events raised by a block at this tick, in the block's own order: they wait to enter the event queue (R165, log 7). -/
def raise (src : Source) (es : List Event) (s : State) : State :=
  s.setFlags { s.flags with handed := s.flags.handed.put (s.flags.handed.of src ++ es) src }

/-- A block's next event may enter the event queue: COMMITTED waits while a sampled pulse may still make its boundary a CUT
(R6). -/
def mayEnter (s : State) (src : Source) : Bool :=
  !(s.flags.handed.of src).isEmpty && !(src == .store && s.flags.edgeNow)

/-- The next event of one block enters the event queue (R165). -/
def enter (src : Source) (s : State) : State :=
  match s.flags.handed.of src with
  | [] => s
  | e :: rest =>
    (s.setArb (s.arb.raise e)).setFlags
      { s.flags with handed := s.flags.handed.put rest src, reported := s.flags.reported || src == .store }

/-! ### Replies and the reply cache (R154, R156, R164) -/

/-- A reply stored in the cache: an entry with the same tag is removed, then the oldest if 8 are held, then the new entry is
added as the newest; tag 0 is not stored (R156). -/
def remember (key : RetryKey) (reply : Reply) (cache : List CacheEntry) : List CacheEntry :=
  if key.tag = 0 then cache
  else
    let others := cache.filter fun c => decide (c.key.tag ≠ key.tag)
    (if others.length < Config.cachePlaces then others else others.tail)
      ++ [⟨key, { reply with restarts := false }⟩]

/-- A reply placed at the tail of the reply queue (R164). -/
def placeReply (reply : Reply) (s : State) : State := s.setArb { s.arb with replies := s.arb.replies ++ [reply] }

/-- The reply to a request with a given kind and body: placed, and stored in the cache (R154, R156). -/
def answerWith (kind : Byte) (r : Request) (body : List Byte) (s : State) : State :=
  let reply : Reply := ⟨kind, r.tag, body, false⟩
  placeReply reply (s.setEngine { s.engine with cache := remember r.key reply s.engine.cache })

/-- The ordinary reply to a request (R154). -/
def answer (r : Request) (body : List Byte) (s : State) : State := answerWith (replyKind r.kind) r body s

/-- The oldest request leaves the request queue at its dispatch; no other is dispatched at this tick (R153). -/
def takeRequest (s : State) : State :=
  (s.setEngine { s.engine with requests := s.engine.requests.tail }).setFlags { s.flags with dispatched := true }

/-- Steps 1 and 2 of R154: the request answered from the cache, or absorbed; `none` when neither applies. -/
def retryOutcome (r : Request) (s : State) : Option State :=
  match cachedReply r s.engine with
  | some reply => some (placeReply reply s)
  | none => if absorbed r s.engine then some s else none

/-- The dispatch of a request of one kind (R153, R154): steps 1 and 2, then the length (step 4), then the owning block
(step 5). The state is as it was when the oldest request is not one of this kind or may not be dispatched (log 2). -/
def serveWith (k : ReqKind) (own : Request → State → State) (s : State) : State :=
  match dispatchable s with
  | none => s
  | some r =>
    if r.kind = k.code then
      let s1 := takeRequest s
      match retryOutcome r s1 with
      | some s2 => s2
      | none => if r.body.length = k.bodyLength then own r s1 else answer r (body .badLength []) s1
    else s

/-- The dispatch of a request whose owning block answers it at once: the block gives the new state and the reply body from
the request's body (R154, step 5). -/
def serve (k : ReqKind) (own : List Byte → State → State × List Byte) (s : State) : State :=
  serveWith k (fun r s1 => answer r (own r.body s1).2 (own r.body s1).1) s

/-! ### The tracker (R20 to R35) -/

/-- The tick's offset has been used, so no pulse given later can end the frame at this tick (log 8); where the tick is going to
be the first of a new frame, its number has been used (log 27). -/
def useOffset (s : State) : State :=
  s.setFlags
    { s.flags with
      settled := s.flags.settled || !s.flags.boundaryDue
      stamped := s.flags.stamped || endsNow s }

/-- A change of the tracker state and its event (R37). -/
def Tracker.change (t : Tracker) (new : TrackState) (cause : TrackCause) (frame : FrameNo) : Tracker × List Event :=
  ({ t with state := new }, [.trackerState t.state new cause frame])

/-- The frame window and the start-corrected flag at a frame's start (R20, R21). -/
def Tracker.beginFrame (cause : Cause) (t : Tracker) : Tracker :=
  { t with window := t.w, corrected := decide (cause ≠ .nominal) }

/-- An in-window pulse: counts to 0, the correction recorded, HOLDOVER to LOCKED with its event (R25). -/
def Tracker.inWindow (correction : Int) (frame : FrameNo) (t : Tracker) : Tracker × List Event :=
  let t1 := { t with misses := 0, holdover := 0, lastCorrection := correction }
  if t.state = .holdover then t1.change .locked .pulse frame else (t1, [])

/-- The holdover count at a NOMINAL boundary (R28). -/
def Tracker.countHoldover (frame : FrameNo) (t : Tracker) : Tracker × List Event :=
  if t.state = .holdover then
    let t1 := { t with holdover := t.holdover + 1 }
    if t.holdoverLimit ≤ t1.holdover then ({ t1 with candidate := none }).change .lost .holdoverLimit frame else (t1, [])
  else (t, [])

/-- The reaction to a change of the frame length (R33); FREE is the LOCAL mode, which has none. -/
def Tracker.lengthReaction (frame : FrameNo) (t : Tracker) : Tracker × List Event :=
  match t.state with
  | .locked | .holdover => ({ t with candidate := none }).change .acquire .length frame
  | .acquire => ({ t with candidate := none }, [])
  | .lost | .free => (t, [])

/-- What a realignment does to the tracker itself (R30). -/
def Tracker.realign (t : Tracker) : Tracker :=
  { t with
    corrected := true, candidate := none, misses := 0, holdover := 0, state := .locked
    realignments := satSucc t.realignments }

/-- One tracker action after another, their events in the order of the changes (R37). -/
def Tracker.andThen (r : Tracker × List Event) (f : Tracker → Tracker × List Event) : Tracker × List Event :=
  ((f r.1).1, r.2 ++ (f r.1).2)

/-! ### The boundary (R7) -/

/-- The boundary notice (R7). -/
structure Notice where
  cause : Cause
  endFrame : FrameNo
  endLength : Nat
  newFrame : FrameNo
  renumbered : Bool
  tick : Tick
  deriving DecidableEq, Repr

/-- The notice of a boundary at the present tick that ends the running frame after `length` ticks (R7). -/
def noticeOf (cause : Cause) (length : Nat) (s : State) : Notice where
  cause := cause
  endFrame := s.tb.frame
  endLength := length
  newFrame := nextNumber s
  renumbered := s.tb.renumber.isSome
  tick := s.tb.tick

/-- The schedule store at a boundary: the swap where the commit's target begins (R69). -/
def Store.boundary (n : Notice) (st : Store) : Store :=
  if st.commit = .pending n.newFrame then { st with active := st.active.other, commit := .idle } else st

/-- The COMMITTED event of a swap at a boundary (R73). -/
def Store.boundaryEvents (n : Notice) (st : Store) : List Event :=
  if st.commit = .pending n.newFrame then [.committed n.newFrame st.shadowId st.shadow.length n.cause] else []

/-- The timebase at a boundary: the previous frame record, the new frame, its lengths and FRAME_OUT (R3, R7, R13). -/
def Timebase.boundary (n : Notice) (length : Nat) (tb : Timebase) : Timebase where
  tick := tb.tick
  frame := n.newFrame
  offset := 0
  startLen := length
  planned := length
  start := tb.tick
  prev := some ⟨n.endFrame, tb.start, n.endLength⟩
  renumber := none
  outTimer := Config.frameOutTicks
  frameOut := true

/-- The pulse taken before the NOMINAL boundary of its tick, as the new frame takes it: a late pulse with o = 0 (R22, R23). -/
def Tracker.takeHeld (hold : PulseHold) (newFrame : FrameNo) (t : Tracker) : Tracker × List Event :=
  match hold with
  | .none => (t, [])
  | .held => ({ t with corrected := true }).inWindow 0 newFrame
  | .applied => ({ t with corrected := true }, [])

/-- The tracker at a boundary. At a NOMINAL one a pulse taken before it comes first (R22, R28), then the holdover count; at an
EARLY one the pulse that caused it is taken first (R24); at a CUT one the realignment (R30, R31). The reaction to a change of
length comes last (R33). `planned` is the ended frame's planned length, `discarded` the executor's count for this boundary. -/
def Tracker.boundary (n : Notice) (hold : PulseHold) (changed : Bool) (planned discarded : Nat) (t : Tracker) :
    Tracker × List Event :=
  let begun := t.beginFrame n.cause
  let taken :=
    match n.cause with
    | .nominal => Tracker.andThen (begun.takeHeld hold n.newFrame) (Tracker.countHoldover n.newFrame)
    | .early => begun.inWindow (-((planned : Int) - n.endLength)) n.newFrame
    | .cut =>
      (begun.realign,
        [.realigned n.newFrame n.endFrame n.endLength discarded,
         .trackerState t.state .locked .realign n.newFrame])
  if changed then Tracker.andThen taken (Tracker.lengthReaction n.newFrame) else taken

/-- A lane record after an entry fires on it (R78). -/
def OutLane.fire (t : Tick) (e : Entry) (l : OutLane) : OutLane :=
  match e.action with
  | .set => { l with level := .high, pulseEnd := none }
  | .clear => { l with level := .low, pulseEnd := none }
  | .toggle => { l with level := (match l.level with | .low => .high | .high => .low), pulseEnd := none }
  | .pulse => { l with level := .high, pulseEnd := some (t + BitVec.ofNat 64 (e.width.getD 0)) }

/-- Firings made one after another at one tick (R76, R82, R84). -/
def fireAll (t : Tick) (fs : List Firing) (v : Lanes OutLane) : Lanes OutLane :=
  fs.foldl (fun v f => v.set f.entry.lane ((v.get f.entry.lane).fire t f.entry)) v

/-- The ACTION events of firings, in the order of the firings (R86, R87). -/
def actionEvents (fs : List Firing) : List Event :=
  (fs.filter fun f => f.entry.notify).map fun f =>
    .action f.frame f.entry.offset f.entry.lane f.entry.action f.entry.tag f.squeezed f.bank

/-- Firings made at the present tick, their ACTION events raised (R78, R86). -/
def makeFirings (fs : List Firing) (s : State) : State :=
  raise .executor (actionEvents fs) (s.setLanes (fireAll s.tb.tick fs s.lanes))

/-- The entries at the front of a list that stand at one offset (R76). -/
def atOffset (x : Nat) (es : List Entry) : List Entry := es.takeWhile fun e => decide (e.offset = x)

/-- The squeezed firings of a boundary: at an EARLY one, the selected entries of those not reached, for the ending frame
(R83, R84). -/
def squeezed (cause : Cause) (s : State) : List Firing :=
  if cause = .early then
    ((unreached s).filter (Entry.selectedIn s.exec.frame)).map fun e => ⟨e, s.exec.frame, s.exec.bank, true⟩
  else []

/-- The discard count after a boundary: at a CUT one, the number of selected entries not reached (R85). -/
def discardCount (cause : Cause) (s : State) : Nat :=
  if cause = .cut then ((unreached s).filter (Entry.selectedIn s.exec.frame)).length else s.exec.discard

/-- The new frame's entries at offset 0 (R76, R84). -/
def firstEntries (bank : Bank) : List Entry := atOffset 0 bank.entries

/-- The executor after a boundary: the discard count of the ended frame, then the new frame begun with its entries at offset
0 reached (R75, R76, R85). -/
def execBoundary (n : Notice) (st : Store) (s : State) : Executor where
  bank := st.active
  frame := n.newFrame
  cursor := (firstEntries st.activeBank).length
  discard := discardCount n.cause s

/-- The firings of the new frame at offset 0: the entries that its number selects (R76, R77). -/
def firstFirings (n : Notice) (st : Store) : List Firing :=
  ((firstEntries st.activeBank).filter (Entry.selectedIn n.newFrame)).map fun e => ⟨e, n.newFrame, st.active, false⟩

/-- The firings of a boundary, in the executor's order (R82, R84, R87). -/
def firings (n : Notice) (st : Store) (s : State) : List Firing := squeezed n.cause s ++ firstFirings n st

/-- A wait placed in the wait list: in ascending order of distance from the current frame, after those of its own frame
(R158). -/
def insertWait (current : FrameNo) (w : Wait) : List Wait → List Wait
  | [] => [w]
  | v :: vs =>
    if distance w.target current < distance v.target current then w :: v :: vs else v :: insertWait current w vs

/-- The due reply of a parked wait at a boundary, if it falls due there (R159, R160). -/
def waitDue (n : Notice) (w : Wait) : Option DueReply :=
  if w.target = n.newFrame then some ⟨w, .ok, n.newFrame⟩
  else if n.renumbered ∧ (judge w.target n.newFrame).isSome then some ⟨w, .renumbered, n.newFrame⟩
  else none

/-- The request engine at a boundary: waits fall due, and a renumber orders the rest afresh (R159, R160). -/
def Engine.boundary (n : Notice) (e : Engine) : Engine :=
  let stay := e.waits.filter fun w => (waitDue n w).isNone
  { e with
    waits := if n.renumbered then stay.foldl (fun ws w => insertWait n.newFrame w ws) [] else stay
    due := e.due ++ e.waits.filterMap (waitDue n) }

/-- The boundary at the present tick: every block acts on one notice, and raises its events (R7, R70). The executor makes `fires`
of its firings at once, and the rest follow at the same tick by ENTRY_FIRE (log 7). -/
def boundary (cause : Cause) (length fires : Nat) (s : State) : State :=
  let n := noticeOf cause length s
  let st := s.store.boundary n
  let tr := s.tracker.boundary n s.flags.pulseHeld (decide (st.activeBank.length ≠ s.tb.startLen)) s.tb.planned
    (discardCount cause s)
  let fs := firings n st s
  makeFirings (fs.take fires) <|
    raise .store (s.store.boundaryEvents n) <|
    raise .tracker tr.2
      { s with
        tb := s.tb.boundary n st.activeBank.length
        tracker := tr.1
        store := st
        exec := execBoundary n st s
        engine := s.engine.boundary n
        flags :=
          { s.flags with
            boundaryDue := false, pulseHeld := .none
            waiting := fs.drop fires
            readBefore := some (s.flags.readBefore.getD (viewAt (length - 1) s)) } }

/-! ### The safe latch (R91, R98, R99) -/

/-- The latch from CLEAR to SET: the hold levels of all lanes are written from the pins of the tick before, and SAFE_ENTERED
is raised with the tick's timestamp (R91, R101); a latch already SET keeps its cause and hold levels. -/
def setLatch (cause : SafeCause) (s : State) : State :=
  match s.safe.latch with
  | some _ => s
  | none =>
    raise .safe [.safeEntered cause (presentStamp s).1 (presentStamp s).2]
      { useOffset s with
        safe := { s.safe with latch := some cause }
        lanes := Lanes.zip (fun l p => { l with hold := p }) s.lanes s.pins.outputsBefore }

/-! ### The transmitter (R148) -/

/-- A frame given to the transmitter, its content fixed at this tick (R139, R148). -/
def startFrame (kind tag : Byte) (body : List Byte) (restarts : Bool) (s : State) : State :=
  s.setLink { s.link with transmitter := .sending (frameOf kind tag body) s.tb.tick restarts }

/-! ### Resets (R14, R163) -/

/-- The device held in reset: no block holds state that survives (R14); the blocks' fields stand at their reset values, which
nothing can read (log 5). The outside pins and the commands waiting are not the device's. -/
def heldInReset (s : State) : State :=
  { State.reset with
    phase := .reset
    pins := { s.pins with frameInEdge := false, outputsBefore := Lanes.fill .highImpedance }
    capture := Capture.reset s.pins.inputs
    link := { Link.reset .b115200 with receiver := .off }
    arb := ⟨[], [], 0⟩
    choices := s.choices
    pending := s.pending }

/-- The straps sampled and the synthesizer begun to lock (R14, R138). -/
def startLock (cause : ReadyCause) (baud1 baud0 : Level) (s : State) : State :=
  let h := heldInReset s
  { h with phase := .locking cause, link := { h.link with baud := Baud.ofStraps baud1 baud0 } }

/-- The moment of lock: every block takes its reset values, the receiver is enabled and READY is queued (R14, R39, R59, R88,
R104, R121, R134, R149, R169). -/
def lockEffect (cause : ReadyCause) (s : State) : State :=
  { State.reset with
    pins := { s.pins with frameInEdge := false, outputsBefore := Lanes.fill .highImpedance }
    capture := Capture.reset s.pins.inputs
    link := Link.reset s.link.baud
    arb := Arbiter.reset cause
    choices := s.choices
    pending := s.pending }

/-- A latch record emptied: present and overwritten become no, the other fields stay (R118). -/
def LatchRecord.emptied (r : LatchRecord) : LatchRecord := { r with present := false, overwritten := false }

/-- The capture lanes at the restart tick: their reset values, each latch record emptied (R118, R121). -/
def Capture.restart (inputs : Lanes Level) (c : Capture) : Capture where
  lanes := Lanes.zip (fun l pin => { InLane.reset pin with latch := l.latch.emptied }) c.lanes inputs
  seq := 0

/-- A character under way when the tick time starts again at 0: its start edge stays as many ticks in the past (R15, R150). -/
def RxChar.rebase (now : Tick) : RxChar → RxChar
  | .idle => .idle
  | .reading start => .reading (start - now)
  | .stopping start => .stopping (start - now)

/-- The restart taking effect: the RESTART values of every block; the baud, the link counters, the receiver and the reply
cache are kept (R15, R39, R60, R88, R104, R121, R135, R150, R163). -/
def restartEffect (s : State) : State :=
  { s with
    tb := Timebase.reset
    tracker := Tracker.reset
    store := Store.reset
    exec := Executor.reset
    lanes := Lanes.fill OutLane.reset
    safe := Safe.reset
    capture := s.capture.restart s.pins.inputs
    cq := CaptureQueue.reset
    link :=
      { s.link with
        parser := Parser.hunt, gap := none, transmitter := .idle
        character := s.link.character.rebase s.tb.tick }
    engine := Engine.reset s.engine.cache
    arb := Arbiter.reset .restart
    flags :=
      { TickFlags.start with
        rxdSampled := s.flags.rxdSampled
        oldParser := if s.link.parser.state = .crcLo then some s.link.parser else none } }

/-- What reaches the link or FRAME_IN on the restart tick is taken after the restart (R39, R150, log 14): the restart is taken
first if it has not been. -/
def settleRestart (s : State) : State := if restartReady s then restartEffect s else s

end Sys2Proof.Machine
end

