-- ==== Sys2Proof/Machine/Actions.lean ====
section
/-! DEFINITION. Scheduled actions: ENTRY_FIRE and PULSE_END. -/

namespace Sys2Proof.Machine

/-- ENTRY_FIRE (R76): the selected entries at the current offset fire in list order, their ACTION events are raised, and the
cursor moves past all of them. On the tick of a boundary it makes the firings of the boundary still to be made (R76, R84,
log 7). -/
def execEntryFire (s : State) : Host.Outcome State Fault Refusal :=
  .next <|
    if entryFireDue s then
      match s.flags.waiting with
      | f :: rest => makeFirings (f :: rest) (s.setFlags { s.flags with waiting := [] })
      | [] =>
        let reached := atOffset s.tb.offset (unreached s)
        makeFirings
          ((reached.filter (Entry.selectedIn s.exec.frame)).map fun e => ⟨e, s.exec.frame, s.exec.bank, false⟩)
          ((s.setExec { s.exec with cursor := s.exec.cursor + reached.length }).setFlags { s.flags with settled := true })
    else s

/-- PULSE_END (R81): the lane's scheduled level becomes 0 and its pending pulse end absent. -/
def execPulseEnd (lane : Lane) (s : State) : Host.Outcome State Fault Refusal :=
  .next <|
    if pulseEndDue s lane then
      s.setLanes (s.lanes.set lane { s.lanes.get lane with level := .low, pulseEnd := none })
    else s

end Sys2Proof.Machine
end

