-- ==== Sys2Proof/Machine/Inputs.lean ====
section
/-! DEFINITION. The capture inputs: INPUT_LEVEL_CHANGE and EDGE_QUALIFIED (R110 to R118, R124, R125). -/

namespace Sys2Proof.Machine

/-- One capture lane replaced. -/
def setInLane (lane : Lane) (l : InLane) (s : State) : State :=
  s.setCapture { s.capture with lanes := s.capture.lanes.set lane l }

/-- The lanes that have been sampled at this tick, with one more (R110). -/
def markSampled (lane : Lane) (s : State) : State :=
  s.setFlags { s.flags with sampled := s.flags.sampled ||| BitVec.twoPow 16 lane.val }

/-- A lane's pin sampled at its present level: a level that differs from the qualified level starts a candidate, one that
agrees with it abandons a candidate as a glitch (R110). -/
def sampleInput (lane : Lane) (s : State) : State :=
  let l := s.capture.lanes.get lane
  let level := s.pins.inputs.get lane
  if level = l.qualified then markSampled lane (setInLane lane { l with candidate := none } s)
  else
    match l.candidate with
    | none => markSampled lane (setInLane lane { l with candidate := some ⟨level, s.tb.tick⟩ } s)
    | some _ => s

/-- INPUT_LEVEL_CHANGE (R110): a pin goes to a level and its lane samples it, once a tick (log 16); outside the running device
it is not sampled. -/
def execInputLevelChange (lane : Lane) (level : Level) (s : State) : Host.Outcome State Fault Refusal :=
  let s1 := s.setPins { s.pins with inputs := s.pins.inputs.set lane level }
  .next <| if running s && !s.flags.sampled.getLsbD lane.val then sampleInput lane s1 else s1

/-- The edge filter (R112, step 1). -/
def EdgeSetting.passes : EdgeSetting → EdgeDir → Bool
  | .both, _ | .rise, .rise | .fall, .fall => true
  | .off, _ | .rise, .fall | .fall, .rise => false

/-- Whether an offset is open under a gate (R114). -/
def Gate.isOpen (g : Gate) (o : Nat) : Bool :=
  if g.first < g.last then decide (g.first ≤ o ∧ o < g.last) else decide (g.first ≤ o ∨ o < g.last)

/-- Whether an offset is open under an optional gate (R112, step 3). -/
def gateOpen (g : Option Gate) (o : Nat) : Bool :=
  match g with
  | none => true
  | some g => g.isOpen o

/-- The direction of an edge to a level (R111). -/
def dirTo : Level → EdgeDir
  | .high => .rise
  | .low => .fall

/-- A capture record arriving at the capture queue (R124). -/
def CaptureQueue.arrive (q : CaptureQueue) (r : CaptureRecord) : CaptureQueue :=
  if q.records.length < Config.capturePlaces then { q with records := q.records ++ [r] }
  else { q with lost := satSucc q.lost }

/-- A latch record filled by a captured edge (R118). -/
def LatchRecord.fill (r : LatchRecord) (edge : EdgeDir) (frame : FrameNo) (offset : Nat) (quality : TrackState) :
    LatchRecord where
  present := true
  edge := edge
  frame := frame
  offset := offset
  quality := quality
  overwritten := r.overwritten || r.present

/-- A captured edge delivered: a capture record with the next sequence number, or the lane's latch record (R112, R116, R117,
R118). -/
def deliver (lane : Lane) (edge : EdgeDir) (frame : FrameNo) (offset : Nat) (quality : TrackState) (s : State) : State :=
  let l := s.capture.lanes.get lane
  match l.delivery with
  | .queue =>
    (s.setCapture { s.capture with seq := s.capture.seq + 1 }).setCq
      (s.cq.arrive ⟨lane, edge, s.capture.seq, frame, offset, quality⟩)
  | .latch => setInLane lane { l with latch := l.latch.fill edge frame offset quality } s

/-- One lane's edge qualified: the qualified level, then the filter, the timestamp, the gate and the delivery (R110 to
R113). -/
def qualifyLane (quality : TrackState) (lane : Lane) (c : LevelCandidate) (s : State) : State :=
  let l := s.capture.lanes.get lane
  let s1 := setInLane lane { l with qualified := c.level, candidate := none } s
  let stamp := edgeStamp s c.start
  if l.edge.passes (dirTo c.level) && gateOpen l.gate stamp.2 then
    deliver lane (dirTo c.level) stamp.1 stamp.2 quality s1
  else s1

/-- One lane of the group: qualified if its candidate completes at this tick (R110). -/
def groupLane (quality : Lane → TrackState) (lane : Lane) (s : State) : State :=
  match (s.capture.lanes.get lane).candidate with
  | some c => if laneDue s lane then qualifyLane (quality lane) lane c s else s
  | none => s

/-- The quality of a lane's record: the tracker state as it stands, or, for the lanes of `before`, the state when the tick
began, on the other side of a change at this tick (R115, log 11). -/
def qualityOf (before : BitVec 16) (s : State) (lane : Lane) : TrackState :=
  if before.getLsbD lane.val then s.flags.stateBefore else s.tracker.state

/-- The lanes not yet sampled at this tick sample their pins (R110). -/
def sampleRest (s : State) : State :=
  allLanes.foldl (fun s' lane => if inputChangeDue s' lane then sampleInput lane s' else s') s

/-- An edge qualified at this tick occurred at this tick (deglitch 0), so its timestamp is the present tick's. -/
def edgeOfThisTick (s : State) : Bool :=
  allLanes.any fun lane =>
    laneDue s lane && ((s.capture.lanes.get lane).candidate.any fun c => decide (c.start = s.tb.tick))

/-- EDGE_QUALIFIED (R110): every edge whose candidate completes at this tick, in ascending order of lane (R117, R125), before
the tick's boundary or after it (R113); the lanes' samples of this tick have then been taken. -/
def execEdgeQualified (before : BitVec 16) (s : State) : Host.Outcome State Fault Refusal :=
  .next <|
    if edgesDue s then
      let s1 := sampleRest s
      let s2 := if edgeOfThisTick s1 then useOffset s1 else s1
      let s3 := allLanes.foldl (fun s' lane => groupLane (qualityOf before s) lane s') s2
      s3.setFlags { s3.flags with sampled := 0xFFFF }
    else s

end Sys2Proof.Machine
end

