-- ==== Sys2Proof/Machine/CaptureRequests.lean ====
section
/-! DEFINITION. The requests of the capture lanes and the capture queue: INPUT_CONFIG, LATCH_READ, CAPTURE_GRANT,
CAPTURE_FLUSH and CAPTURE_STATUS (R107, R108, R119, R127, R131, R133). -/

namespace Sys2Proof.Machine

/-! ### INPUT_CONFIG (R107, R108) -/

/-- An input configuration (R106). -/
structure InputFields where
  edge : EdgeSetting
  deglitch : Nat
  gate : Option Gate
  delivery : Delivery
  deriving DecidableEq, Repr

/-- The gate of an INPUT_CONFIG body, where its marker is a flag and a gate present has start and end unlike; the inner
absence is the absent gate, whose start and end are not examined (R107, R171). -/
def readGate (marker : Byte) (first last : Nat) : Option (Option Gate) :=
  match readFlag marker with
  | none => none
  | some false => some none
  | some true => if first = last then none else some (some ⟨first, last⟩)

/-- The fields of an INPUT_CONFIG body after its lane, where each is in range (R107). A deglitch byte and 3-byte gate offsets
cannot exceed their ranges. -/
def readInputFields : List Byte → Option InputFields
  | [edge, deglitch, marker, s2, s1, s0, e2, e1, e0, delivery] =>
    match readEdge edge, readGate marker (beNat [s2, s1, s0]) (beNat [e2, e1, e0]), readDelivery delivery with
    | some edge, some gate, some delivery => some ⟨edge, deglitch.toNat, gate, delivery⟩
    | _, _, _ => none
  | _ => none

/-- The level sampled on a lane's pin at the present tick: the pin's level, or, where the lane has taken its sample of this
tick already, the level it then had (log 16). -/
def sampledLevel (lane : Lane) (s : State) : Level :=
  let l := s.capture.lanes.get lane
  if s.flags.sampled.getLsbD lane.val then (l.candidate.map LevelCandidate.level).getD l.qualified
  else s.pins.inputs.get lane

/-- A capture lane configured (R108): the four fields together, any candidate abandoned, the qualified level the one sampled,
the latch record emptied where the delivery changes. -/
def InLane.configure (f : InputFields) (level : Level) (l : InLane) : InLane where
  edge := f.edge
  deglitch := f.deglitch
  gate := f.gate
  delivery := f.delivery
  qualified := level
  candidate := none
  latch := if f.delivery = l.delivery then l.latch else l.latch.emptied

/-- INPUT_CONFIG carried out (R107, R108): status alone for a lane above 15, else the lane's items as they then stand. -/
def ownInputConfig (b : List Byte) (s : State) : State × List Byte :=
  match b with
  | laneByte :: rest =>
    match readLane laneByte with
    | none => (s, body .badValue [])
    | some lane =>
      match readInputFields rest with
      | none => (s, body .badValue (inLaneItems lane (s.capture.lanes.get lane)))
      | some f =>
        let l := (s.capture.lanes.get lane).configure f (sampledLevel lane s)
        (markSampled lane (setInLane lane l s), body .ok (inLaneItems lane l))
  | [] => (s, body .badValue [])

/-- INPUT_CONFIG (R108). -/
def execInputConfig (s : State) : Host.Outcome State Fault Refusal := .next <| serve .inputConfig ownInputConfig s

/-! ### LATCH_READ (R119) -/

/-- The items of a LATCH_READ reply: the lane, its delivery, and the held edge where one is given; overwritten is absent in the
WRONG_MODE reply (R119, R175). -/
def latchItems (lane : Lane) (delivery : Delivery) (held : Option LatchRecord) (overwritten : Option Bool) : List Byte :=
  be1 lane.val ++ [delivery.code]
    ++ (match held with
        | some r => [r.edge.code] ++ frameBytes r.frame ++ be4 r.offset ++ [r.quality.code]
        | none => [absentByte] ++ be4 0 ++ be4 0 ++ [absentByte])
    ++ [(overwritten.map flagCode).getD absentByte]

/-- LATCH_READ carried out (R119): lane, delivery and presence checked in order; a record read is emptied. -/
def ownLatchRead (b : List Byte) (s : State) : State × List Byte :=
  match b.head?.bind readLane with
  | none => (s, body .badValue [])
  | some lane =>
    let l := s.capture.lanes.get lane
    match l.delivery with
    | .queue => (s, body .wrongMode (latchItems lane .queue none none))
    | .latch =>
      if l.latch.present then
        (setInLane lane { l with latch := l.latch.emptied } s,
          body .ok (latchItems lane .latch (some l.latch) (some l.latch.overwritten)))
      else (s, body .empty (latchItems lane .latch none (some false)))

/-- LATCH_READ (R119). -/
def execLatchRead (s : State) : Host.Outcome State Fault Refusal := .next <| serve .latchRead ownLatchRead s

/-! ### The capture queue's requests -/

/-- CAPTURE_GRANT carried out (R127): the credit plus n, at most 65,535. -/
def ownCaptureGrant (b : List Byte) (s : State) : State × List Byte :=
  let credit := min 65535 (s.cq.credit + beNat b)
  (s.setCq { s.cq with credit := credit }, body .ok (be2 credit))

/-- CAPTURE_GRANT (R127). -/
def execCaptureGrant (s : State) : Host.Outcome State Fault Refusal := .next <| serve .captureGrant ownCaptureGrant s

/-- The arbiter's turn after a flush: a turn that had only the capture source may be spent on a batch that is not formed, so that
the choice is made again at this tick or at the next (R128, R132, log 22). -/
def Turn.flushed : Turn → Turn
  | .batch => .nothing
  | .nothing => .nothing
  | .message => .message

/-- CAPTURE_FLUSH carried out (R131): every record removed; the credit and the lost counter keep their values. -/
def ownCaptureFlush (_ : List Byte) (s : State) : State × List Byte :=
  ((s.setCq { s.cq with records := [] }).setFlags { s.flags with sendOwed := s.flags.sendOwed.flushed },
    body .ok (be2 s.cq.records.length))

/-- CAPTURE_FLUSH (R131). -/
def execCaptureFlush (s : State) : Host.Outcome State Fault Refusal := .next <| serve .captureFlush ownCaptureFlush s

/-- The items of CAPTURE_STATUS (R133, R175). -/
def captureItems (q : CaptureQueue) (seq : BitVec 16) : List Byte :=
  be2 q.records.length ++ be2 q.credit ++ be2 q.lost ++ be2 seq.toNat

/-- CAPTURE_STATUS (R133). -/
def execCaptureStatus (s : State) : Host.Outcome State Fault Refusal :=
  .next <| serve .captureStatus (fun _ s => (s, body .ok (captureItems s.cq s.capture.seq))) s

end Sys2Proof.Machine
end

