-- ==== Sys2Proof/Machine/Engine.lean ====
section
/-! DEFINITION. The request engine's own events and requests: DUE_REPLY_PLACE, RESTART_REPLY_PLACE, RESTART_TAKES_EFFECT,
UNKNOWN_KIND, IDENTIFY, LINK_STATS, RESTART and SYNC_WAIT (R147, R153 to R168). -/

namespace Sys2Proof.Machine

/-- The reply of a due wait (R161, R175). -/
def DueReply.reply (d : DueReply) : Reply :=
  ⟨replyKind d.wait.key.kind, d.wait.key.tag, body d.status (waitItems d.wait.target d.frame), false⟩

/-- One due reply placed, and stored in the cache where its tag is not 0 (R156, R161). -/
def placeDue (d : DueReply) (s : State) : State :=
  placeReply d.reply (s.setEngine { s.engine with cache := remember d.wait.key d.reply s.engine.cache })

/-- The dispatch owed at this tick is owed no more where the reply queue has lost the room for it: where the arbiter then frees
that room, the dispatch is made at this tick or at the next (R153, log 22). -/
def keepDispatchOwed (s : State) : State :=
  s.setFlags { s.flags with dispatchOwed := s.flags.dispatchOwed && s.engine.requests.head?.any (roomFor s) }

/-- DUE_REPLY_PLACE (R161): as many due replies as the reply queue has free places, in order. -/
def execDueReplyPlace (s : State) : Host.Outcome State Fault Refusal :=
  .next <|
    if dueReplyReady s then
      let n := Config.replyPlaces - s.arb.replies.length
      keepDispatchOwed <|
        (s.engine.due.take n).foldl (fun s' d => placeDue d s') (s.setEngine { s.engine with due := s.engine.due.drop n })
    else s

/-- RESTART_REPLY_PLACE (R162): after the last due reply, at the first tick at which a place is free. -/
def execRestartReplyPlace (s : State) : Host.Outcome State Fault Refusal :=
  .next <|
    match s.engine.restartReply with
    | some reply =>
      if running s && s.engine.due.isEmpty && decide (s.arb.replies.length < Config.replyPlaces) then
        placeReply { reply with restarts := true } (s.setEngine { s.engine with restartReply := none })
      else s
    | none => s

/-- RESTART_TAKES_EFFECT (R163): at the end of the last stop bit of the RESTART reply. -/
def execRestartTakesEffect (s : State) : Host.Outcome State Fault Refusal :=
  .next <| if restartReady s then restartEffect s else s

/-- UNKNOWN_KIND (R155): a dispatched request whose kind is no request kind. -/
def execUnknownKind (s : State) : Host.Outcome State Fault Refusal :=
  .next <|
    match dispatchable s with
    | none => s
    | some r =>
      if (ReqKind.ofCode r.kind).isNone then
        let s1 := takeRequest s
        match retryOutcome r s1 with
        | some s2 => s2
        | none => answerWith unknownReplyKind r (body .unknownKind [r.kind]) s1
      else s

/-- IDENTIFY (R168). -/
def execIdentify (s : State) : Host.Outcome State Fault Refusal :=
  .next <| serve .identify (fun _ s => (s, body .ok identifyItems)) s

/-- LINK_STATS (R147): the counters as they stand, then cleared if asked; a clear flag other than 0 or 1 is BAD_VALUE, status
alone (R171). -/
def ownLinkStats (b : List Byte) (s : State) : State × List Byte :=
  match b.head?.bind readFlag with
  | none => (s, body .badValue [])
  | some clear =>
    (if clear then s.setLink { s.link with counters := Counters.zero } else s,
      body .ok (linkItems s.link.counters s.link.baud))

/-- LINK_STATS (R147). -/
def execLinkStats (s : State) : Host.Outcome State Fault Refusal := .next <| serve .linkStats ownLinkStats s

/-- RESTART carried out (R162): the engine is RESTARTING, every parked wait falls due with ABORTED, and the RESTART reply is
formed and stored in the cache. -/
def ownRestart (r : Request) (s : State) : State :=
  let reply : Reply := ⟨replyKind r.kind, r.tag, body .ok [], false⟩
  s.setEngine
    { s.engine with
      state := .restarting
      waits := []
      due := s.engine.due ++ s.engine.waits.map fun w => ⟨w, .aborted, s.tb.frame⟩
      restartReply := some reply
      cache := remember r.key reply s.engine.cache }

/-- RESTART (R162); its placement and the ABORTED replies' follow by RESTART_REPLY_PLACE and DUE_REPLY_PLACE. -/
def execRestart (s : State) : Host.Outcome State Fault Refusal := .next <| serveWith .restart ownRestart s

/-- SYNC_WAIT carried out (R158): the target judged, then the wait list; a wait that passes is parked without a reply. -/
def ownSyncWait (r : Request) (s : State) : State :=
  let target : FrameNo := BitVec.ofNat 32 (beNat r.body)
  match judge target s.tb.frame with
  | some status => answer r (body status (waitItems target s.tb.frame)) s
  | none =>
    if s.engine.waits.length < Config.waitPlaces then
      s.setEngine { s.engine with waits := insertWait s.tb.frame ⟨r.key, target⟩ s.engine.waits }
    else answer r (body .waitFull (waitItems target s.tb.frame)) s

/-- SYNC_WAIT (R158). -/
def execSyncWait (s : State) : Host.Outcome State Fault Refusal := .next <| serveWith .syncWait ownSyncWait s

end Sys2Proof.Machine
end

