-- ==== Sys2Proof/Machine/Frames.lean ====
section
/-! DEFINITION. Frame boundaries and the reference: REFERENCE_PULSE, NOMINAL_BOUNDARY, MISS and FRAME_OUT_END. -/

namespace Sys2Proof.Machine

/-- The late correction (R4, R23). -/
def lateCorrection (s : State) : State :=
  let r := ({ s.tracker with corrected := true }).inWindow s.tb.offset s.tb.frame
  raise .tracker r.2 ((s.setTracker r.1).setTb { s.tb with planned := s.tb.startLen + s.tb.offset })

/-- A pulse in LOCKED or HOLDOVER (R22 to R26): held for the boundary of this tick; late; early; or a stray. -/
def pulseFollowing (fires : Nat) (s : State) : State :=
  if s.flags.boundaryDue then s.setFlags { s.flags with pulseHeld := .held }
  else if pulseLate s then lateCorrection s
  else if pulseEarly s then boundary .early s.tb.offset fires s
  else s.setTracker { s.tracker with strays := satSucc s.tracker.strays }

/-- A COMMITTED event of a NOMINAL boundary that is now reported with cause CUT (R6, R73). -/
def recause : Event → Event
  | .committed f active length .nominal => .committed f active length .cut
  | e => e

/-- A realignment on the tick of a NOMINAL boundary that has been taken: the boundary stands as one, with offset 0, and is
reported with cause CUT, its COMMITTED event not having entered the event queue; no entry is left to discard (R6, R30, R31,
log 10). -/
def realignAtStart (s : State) : State :=
  match s.tb.prev with
  | some p =>
    raise .tracker
      [.realigned s.tb.frame p.frame p.length 0, .trackerState s.tracker.state .locked .realign s.tb.frame]
      (((s.setTracker s.tracker.realign).setExec { s.exec with discard := 0 }).setFlags
        { s.flags with handed := { s.flags.handed with store := s.flags.handed.store.map recause } })
  | none => s

/-- A pulse in ACQUIRE (R29): the candidate, and the realignment when the run is long enough (R30). On the tick at which the
frame reaches its planned length the cut ends it there (R6). -/
def pulseAcquire (fires : Nat) (s : State) : State :=
  if realigns s then
    if s.flags.boundaryDue then boundary .cut s.tb.planned fires s
    else if s.tb.offset = 0 then realignAtStart s
    else boundary .cut s.tb.offset fires s
  else s.setTracker { s.tracker with candidate := some (nextCandidate s) }

/-- A pulse in LOST (R32); on the tick of a boundary the running frame is the one that begins (R22). -/
def pulseLost (s : State) : State :=
  let r := ({ s.tracker with candidate := some ⟨s.tb.tick, 1⟩ }).change .acquire .pulse (presentStamp s).1
  raise .tracker r.2 ((s.setFlags { s.flags with stamped := s.flags.stamped || endsNow s }).setTracker r.1)

/-- A pulse taken at the present tick, by the tracker's mode and state (R19). -/
def takePulse (fires : Nat) (s : State) : State :=
  match s.tracker.mode with
  | .localMode => s
  | .externalMode =>
    match s.tracker.state with
    | .locked | .holdover => pulseFollowing fires s
    | .acquire => pulseAcquire fires s
    | .lost => pulseLost s
    | .free => s

/-- REFERENCE_PULSE (R19): a rising edge on FRAME_IN, taken at this tick, or sampled first at the next one. Outside the running
device no pulse is taken; on the restart tick it is taken after the restart (R39). -/
def execReferencePulse (edge : PulseEdge) (s : State) : Host.Outcome State Fault Refusal :=
  .next <|
    if running s then
      let s1 := settleRestart s
      if edge.late || edgeWaits s1 then s1.setPins { s1.pins with frameInEdge := true }
      else takePulse edge.fires (s1.setFlags { s1.flags with pulseTaken := true, edgeNow := false })
    else s

/-- NOMINAL_BOUNDARY (R2): at the tick at which the offset would reach P, the frame ends after exactly P ticks. -/
def execNominalBoundary (fires : Nat) (s : State) : Host.Outcome State Fault Refusal :=
  .next <| if running s && s.flags.boundaryDue then boundary .nominal s.tb.planned fires s else s

/-- MISS (R27): the frame's starting boundary went uncorrected. -/
def execMiss (s : State) : Host.Outcome State Fault Refusal :=
  .next <|
    if missDue s then
      let t := { s.tracker with misses := satSucc s.tracker.misses }
      let r :=
        if t.state = .locked ∧ t.missLimit ≤ t.misses then
          ({ t with holdover := 0 }).change .holdover .miss s.tb.frame
        else (t, [])
      raise .tracker r.2 ((s.setTracker r.1).setFlags { s.flags with missJudged := true, settled := true })
    else s

/-- FRAME_OUT_END (R13): the timer has reached 0 and FRAME_OUT is driven low. -/
def execFrameOutEnd (s : State) : Host.Outcome State Fault Refusal :=
  .next <| if frameOutEndDue s then s.setTb { s.tb with frameOut := false } else s

end Sys2Proof.Machine
end

