-- ==== Sys2Proof/Machine/LaneRequests.lean ====
section
/-! DEFINITION. The requests of the output lanes and the safe control: LANE_CONFIG, LANE_FORCE, LANE_RELEASE, LANE_STATUS,
SAFE_ENTER and SAFE_RELEASE (R92 to R101). -/

namespace Sys2Proof.Machine

/-- One lane record replaced. -/
def setOutLane (lane : Lane) (l : OutLane) (s : State) : State := s.setLanes (s.lanes.set lane l)

/-- The lane items: lane, mode, scheduled level, pin level (R97, R175), all as they stand when the request is taken; the pin level
of a change taken later at the tick is not in them (log 25). -/
def laneItems (lane : Lane) (s : State) : List Byte :=
  let l := s.lanes.get lane
  be1 lane.val ++ [l.mode.code, levelCode l.level, (outPin s lane).code]

/-- The frame of the three lane requests that change a lane: BAD_VALUE with the status alone for a lane above 15; else the
request's own outcome, a status and the lane record, answered with the lane items as they then stand (R97). -/
def changeLane (laneByte : Byte) (own : OutLane → Status × OutLane) (s : State) : State × List Byte :=
  match readLane laneByte with
  | none => (s, body .badValue [])
  | some lane =>
    let r := own (s.lanes.get lane)
    let s1 := setOutLane lane r.2 s
    (s1, body r.1 (laneItems lane s1))

/-! ### LANE_CONFIG (R92) -/

/-- A lane record configured (R92): mode and safe level; an initial level 0 or 1 also cancels the pending pulse end. -/
def OutLane.configure (mode : LaneMode) (safe : SafeLevel) (initial : Option Level) (l : OutLane) : OutLane :=
  match initial with
  | some level => { l with mode := mode, safe := safe, level := level, pulseEnd := none }
  | none => { l with mode := mode, safe := safe }

/-- The checks of LANE_CONFIG after the lane, in order, and its effect (R92). -/
def configureLane (latch : Option SafeCause) (modeByte safeByte initialByte : Byte) (l : OutLane) : Status × OutLane :=
  match readLaneMode modeByte, readSafeLevel safeByte, readInitial initialByte with
  | some mode, some safe, some initial =>
    if latch.isSome ∧ safe ≠ l.safe then (.safeActive, l) else (.ok, l.configure mode safe initial)
  | _, _, _ => (.badValue, l)

/-- LANE_CONFIG carried out (R92). -/
def ownLaneConfig (b : List Byte) (s : State) : State × List Byte :=
  match b with
  | [lane, mode, safe, initial] => changeLane lane (configureLane s.safe.latch mode safe initial) s
  | _ => (s, body .badValue [])

/-- LANE_CONFIG (R92). -/
def execLaneConfig (s : State) : Host.Outcome State Fault Refusal := .next <| serve .laneConfig ownLaneConfig s

/-! ### LANE_FORCE (R94) and LANE_RELEASE (R95) -/

/-- The level check of LANE_FORCE and its effect (R94). -/
def forceLane (levelByte : Byte) (l : OutLane) : Status × OutLane :=
  match readForce levelByte with
  | some mode => (.ok, { l with mode := mode })
  | none => (.badValue, l)

/-- LANE_FORCE carried out (R94). -/
def ownLaneForce (b : List Byte) (s : State) : State × List Byte :=
  match b with
  | [lane, level] => changeLane lane (forceLane level) s
  | _ => (s, body .badValue [])

/-- LANE_FORCE (R94). -/
def execLaneForce (s : State) : Host.Outcome State Fault Refusal := .next <| serve .laneForce ownLaneForce s

/-- LANE_RELEASE's effect: from a forced mode to SCHEDULED, else WRONG_MODE (R95). -/
def releaseLane (l : OutLane) : Status × OutLane :=
  match l.mode with
  | .forcedHigh | .forcedLow => (.ok, { l with mode := .scheduled })
  | .off | .scheduled => (.wrongMode, l)

/-- LANE_RELEASE carried out (R95). -/
def ownLaneRelease (b : List Byte) (s : State) : State × List Byte :=
  match b with
  | [lane] => changeLane lane releaseLane s
  | _ => (s, body .badValue [])

/-- LANE_RELEASE (R95). -/
def execLaneRelease (s : State) : Host.Outcome State Fault Refusal := .next <| serve .laneRelease ownLaneRelease s

/-! ### LANE_STATUS (R96) -/

/-- The items of LANE_STATUS (R96, R175); the pulse end is given as ticks remaining. -/
def laneStatusItems (lane : Lane) (s : State) : List Byte :=
  let l := s.lanes.get lane
  be1 lane.val ++ [l.mode.code, levelCode l.level] ++ present be2 (l.pulseEnd.map fun e => (e - s.tb.tick).toNat)
    ++ [l.safe.code, l.hold.code, latchCode s.safe.latch, safeNCode s.safe.qualified, (outPin s lane).code]

/-- LANE_STATUS carried out (R96); BAD_VALUE is the status alone (R175). The tick's firings are then all taken, so a pulse
of FRAME_IN can no longer end the frame at this tick (log 15). -/
def ownLaneStatus (b : List Byte) (s : State) : State × List Byte :=
  match b.head?.bind readLane with
  | none => (s, body .badValue [])
  | some lane => (s.setFlags { s.flags with settled := true }, body .ok (laneStatusItems lane s))

/-- LANE_STATUS (R96). -/
def execLaneStatus (s : State) : Host.Outcome State Fault Refusal := .next <| serve .laneStatus ownLaneStatus s

/-! ### SAFE_ENTER (R99) and SAFE_RELEASE (R100) -/

/-- SAFE_ENTER carried out (R99): the latch set with cause REQUEST where it is CLEAR; the reply says whether it was set. -/
def ownSafeEnter (_ : List Byte) (s : State) : State × List Byte :=
  (setLatch .request s, body .ok [flagCode s.safe.latch.isSome])

/-- SAFE_ENTER (R99). -/
def execSafeEnter (s : State) : Host.Outcome State Fault Refusal := .next <| serve .safeEnter ownSafeEnter s

/-- SAFE_RELEASE carried out (R100): the latch cleared, with SAFE_RELEASED, where it is SET and SAFE_N is qualified
DEASSERTED; the hold levels are left. -/
def ownSafeRelease (_ : List Byte) (s : State) : State × List Byte :=
  match s.safe.latch, s.safe.qualified with
  | none, _ => (s, body .ok [])
  | some _, .low => (s, body .safeInputActive [])
  | some _, .high =>
    (raise .safe [.safeReleased (presentStamp s).1 (presentStamp s).2]
      ((useOffset s).setSafe { s.safe with latch := none }), body .ok [])

/-- SAFE_RELEASE (R100). -/
def execSafeRelease (s : State) : Host.Outcome State Fault Refusal := .next <| serve .safeRelease ownSafeRelease s

end Sys2Proof.Machine
end

