-- ==== Sys2Proof/Machine/LinkPort.lean ====
section
/-! DEFINITION. The link port: characters and bytes on RXD, the receive parser and its faults, and the transmitter (R136 to
R150), with the intake of a good frame (R151, R152) and the arbiter's choice (R166). -/

namespace Sys2Proof.Machine

/-! ### Characters on RXD (R136) -/

/-- RXD has been sampled at this tick (log 12). -/
def rxdTaken (s : State) : State := s.setFlags { s.flags with rxdSampled := true }

/-- RECEIVER_ARMED (R136): WAITING_HIGH, RXD is sampled high; from the first tick after lock on (R149). -/
def execReceiverArmed (s : State) : Host.Outcome State Fault Refusal :=
  .next <|
    if running s && !s.flags.rxdSampled && s.link.receiver == .waitingHigh then
      rxdTaken (s.setLink { s.link with receiver := .armed })
    else s

/-- START_BIT (R136): a falling edge while ARMED, no character being under way, starts one at this tick; it holds off the gap
timeout (R144). -/
def execStartBit (s : State) : Host.Outcome State Fault Refusal :=
  .next <|
    if receiving s && !s.flags.rxdSampled && lineFree s then
      rxdTaken (s.setLink { s.link with character := .reading s.tb.tick })
    else s

/-- FALSE_START (R136): RXD is high at the middle of the start bit; no byte, no counter, and the gap timer runs on. -/
def execFalseStart (s : State) : Host.Outcome State Fault Refusal :=
  .next <|
    if receiving s && bitNow 0 s then rxdTaken (s.setLink { s.link with character := .idle }) else s

/-! ### The parser (R141 to R145) -/

/-- The parser after a good byte that begins a frame or moves it on, and that is neither noise, a length above 240 nor the
last byte of a frame; `none` for those (R141). -/
def Parser.advance (p : Parser) (b : Byte) : Option Parser :=
  match p.state with
  | .hunt => if b = Config.syncByte then some { Parser.hunt with state := .len } else none
  | .len => if b.toNat ≤ Config.maxBody then some { p with state := .kind, length := b.toNat, crc := crcByte p.crc b } else none
  | .kind => some { p with state := .tag, kind := b, crc := crcByte p.crc b }
  | .tag => some { p with state := if p.length = 0 then .crcHi else .body, tag := b, crc := crcByte p.crc b }
  | .body =>
    some
      { p with
        state := if p.body.length + 1 < p.length then .body else .crcHi
        body := p.body ++ [b]
        crc := crcByte p.crc b }
  | .crcHi => some { p with state := .crcLo, crcHigh := b }
  | .crcLo => none

/-- The frame that a byte taken now completes: the one whose CRC low byte is awaited, on the restart tick also after the
restart has been taken (R145, R150). -/
def awaited (s : State) : Option Parser :=
  if s.link.parser.state = .crcLo then some s.link.parser else s.flags.oldParser

/-- The link port abandons the frame in progress: HUNT, and the gap timer stopped (R142 to R144). -/
def Link.toHunt (l : Link) : Link := { l with parser := Parser.hunt, gap := none }

/-- The byte of the character under way has been taken; its stop bit runs on (R136). -/
def RxChar.taken : RxChar → RxChar
  | .reading start => .stopping start
  | .idle => .idle
  | .stopping start => .stopping start

/-- The link port after a character whose byte has been taken (R136). -/
def Link.byteTaken (l : Link) : Link := { l with character := l.character.taken }

def Counters.addFramesOk (c : Counters) : Counters := { c with framesOk := satSucc c.framesOk }
def Counters.addCrcError (c : Counters) : Counters := { c with crcErrors := satSucc c.crcErrors }
def Counters.addLengthError (c : Counters) : Counters := { c with lengthErrors := satSucc c.lengthErrors }
def Counters.addFramingError (c : Counters) : Counters := { c with framingErrors := satSucc c.framingErrors }
def Counters.addTimeout (c : Counters) : Counters := { c with timeouts := satSucc c.timeouts }
def Counters.addBusyDropped (c : Counters) : Counters := { c with busyDropped := satSucc c.busyDropped }

/-- GOOD_BYTE (R141): a good byte that begins a frame or advances the parser; the gap timer restarts. On the restart tick it
is judged after the parser's reset (R150). -/
def execGoodByte (b : Byte) (s : State) : Host.Outcome State Fault Refusal :=
  .next <|
    if itemNow s && (awaited s).isNone then
      let s1 := settleRestart s
      match s1.link.parser.advance b with
      | some p => s1.setLink { s1.link.byteTaken with parser := p, gap := some s1.tb.tick }
      | none => s
    else s

/-- NOISE_BYTE (R141): a good byte other than SYNC in HUNT is discarded and counted in framing_errors. -/
def execNoiseByte (b : Byte) (s : State) : Host.Outcome State Fault Refusal :=
  .next <|
    if itemNow s && (awaited s).isNone && b != Config.syncByte then
      let s1 := settleRestart s
      if s1.link.parser.state = .hunt then
        s1.setLink { s1.link.byteTaken with counters := s1.link.counters.addFramingError }
      else s
    else s

/-- STOP_BIT_ERROR (R143): the frame in progress ends, framing_errors counts, and the receiver waits for RXD to be high; in
HUNT the byte is discarded and counted the same way (R141). -/
def execStopBitError (s : State) : Host.Outcome State Fault Refusal :=
  .next <|
    if itemNow s then
      let s1 := settleRestart s
      (s1.setLink
        { s1.link.toHunt with
          counters := s1.link.counters.addFramingError, receiver := .waitingHigh, character := .idle }).setFlags
        { s1.flags with oldParser := none, rxdSampled := true }
    else s

/-- LENGTH_ERROR (R142): a LEN byte above 240 abandons the frame and counts in length_errors. -/
def execLengthError (b : Byte) (s : State) : Host.Outcome State Fault Refusal :=
  .next <|
    if itemNow s && decide (Config.maxBody < b.toNat) && !restartReady s && decide (s.link.parser.state = .len) then
      s.setLink { s.link.byteTaken.toHunt with counters := s.link.counters.addLengthError }
    else s

/-- FRAME_TIMEOUT (R144): more than 64 bit times since the last byte; the frame is abandoned and counted in timeouts. -/
def execFrameTimeout (s : State) : Host.Outcome State Fault Refusal :=
  .next <|
    if timeoutDue s then s.setLink { s.link.toHunt with counters := s.link.counters.addTimeout } else s

/-! ### Intake (R151, R152) -/

/-- The BUSY reply to a frame, formed at intake without dispatch (R152). -/
def busyReply (r : Request) : Reply :=
  match ReqKind.ofCode r.kind with
  | some _ => ⟨replyKind r.kind, r.tag, body .busy [], false⟩
  | none => ⟨unknownReplyKind, r.tag, body .busy [r.kind], false⟩

/-- A good frame taken in by the request engine (R151). -/
def intake (r : Request) (s : State) : State :=
  match s.engine.state with
  | .restarting => s
  | .running =>
    if s.engine.requests.length < Config.requestPlaces then
      s.setEngine { s.engine with requests := s.engine.requests ++ [r] }
    else
      match s.engine.refusal with
      | none => s.setEngine { s.engine with refusal := some (busyReply r) }
      | some _ => s.setLink { s.link with counters := s.link.counters.addBusyDropped }

/-- The received CRC of a frame, its low byte being the byte just taken (R145). -/
def receivedCrc (p : Parser) (low : Byte) : BitVec 16 := p.crcHigh ++ low

/-- RECEIVE_FRAME (R145): the CRC low byte is taken; an equal CRC makes the frame good, and it is handed to the request
engine; a different one discards it. On the restart tick a frame so completed is counted, and handed on after the engine has
taken its restart values (R150, R163). -/
def execReceiveFrame (low : Byte) (s : State) : Host.Outcome State Fault Refusal :=
  .next <|
    if itemNow s then
      match awaited s with
      | none => s
      | some p =>
        let s1 := (s.setLink s.link.byteTaken.toHunt).setFlags { s.flags with oldParser := none }
        if receivedCrc p low = p.crc then
          intake ⟨p.kind, p.tag, p.body, p.crc⟩
            (settleRestart (s1.setLink { s1.link with counters := s1.link.counters.addFramesOk }))
        else settleRestart (s1.setLink { s1.link with counters := s1.link.counters.addCrcError })
    else s

/-! ### The transmitter and the arbiter (R148, R166) -/

/-- The batch formed at the tick at which the capture source is given the transmitter: the k oldest records, the credit less
k, the lost counter taken and set to 0 (R128). -/
def formBatch (s : State) : State :=
  let k := min Config.batchRecords (min s.cq.credit s.cq.records.length)
  (startFrame batchKind 0 (batchBody (s.cq.records.take k) s.cq.lost) false s).setCq
    { s.cq with records := s.cq.records.drop k, credit := s.cq.credit - k, lost := 0 }

/-- TRANSMIT_START (R166): the transmitter, IDLE, is given the first available of the refusal slot, the reply queue, the event
queue (the event frame formed with the events-lost counter, which becomes 0, R165) and the capture source. -/
def execTransmitStart (s : State) : Host.Outcome State Fault Refusal :=
  .next <|
    if transmitDue s then
      match s.engine.refusal with
      | some r => startFrame r.kind r.tag r.body r.restarts (s.setEngine { s.engine with refusal := none })
      | none =>
        match s.arb.replies with
        | r :: rest => startFrame r.kind r.tag r.body r.restarts (s.setArb { s.arb with replies := rest })
        | [] =>
          match s.arb.events with
          | e :: rest => startFrame e.kind 0 (e.body s.arb.lost) false (s.setArb { s.arb with events := rest, lost := 0 })
          | [] => formBatch s
    else s

/-- FRAME_SENT (R148): the stop bit of the frame's last byte ends and the transmitter becomes IDLE, and the arbiter's choice of
this tick finds what is there (R166); at the end of the RESTART reply the restart is due (R163). -/
def execFrameSent (s : State) : Host.Outcome State Fault Refusal :=
  .next <|
    match s.link.transmitter with
    | .sending _ _ restarts =>
      if running s && sendEnded s then
        (s.setLink { s.link with transmitter := .idle }).setFlags
          { s.flags with restartDue := s.flags.restartDue || restarts, sendOwed := turnOf s }
      else s
    | .idle => s

end Sys2Proof.Machine
end

