-- ==== Sys2Proof/Machine/Power.lean ====
section
/-! DEFINITION. The power and reset commands (R14). -/

namespace Sys2Proof.Machine

/-- POWER_ON (R14): the supply becomes valid. With RESET_N high the straps are sampled and the lock begins; with RESET_N low
the device stays in reset until the release (log 17). -/
def execPowerOn (baud1 baud0 : Level) (s : State) : Host.Outcome State Fault Refusal :=
  .next <|
    if s.pins.supply then s
    else
      let s1 := s.setPins { s.pins with supply := true }
      match s.pins.resetN with
      | .high => startLock .power baud1 baud0 s1
      | .low => heldInReset s1

/-- RESET_N_ASSERT (R14): the device enters reset at once, a frame on TXD is cut off, every output is high-impedance and all
state is lost. -/
def execResetNAssert (s : State) : Host.Outcome State Fault Refusal :=
  .next <|
    match s.pins.resetN with
    | .low => s
    | .high => heldInReset (s.setPins { s.pins with resetN := .low })

/-- RESET_N_RELEASE (R14): with the supply valid, the straps are sampled and the lock begins. -/
def execResetNRelease (baud1 baud0 : Level) (s : State) : Host.Outcome State Fault Refusal :=
  .next <|
    match s.pins.resetN with
    | .high => s
    | .low =>
      let s1 := s.setPins { s.pins with resetN := .high }
      if s.pins.supply then startLock .pin baud1 baud0 s1 else heldInReset s1

/-- SYNTHESIZER_LOCK (R14): in the lock phase, the timebase starts and every block takes its reset values. -/
def execSynthesizerLock (s : State) : Host.Outcome State Fault Refusal :=
  .next <|
    match s.phase with
    | .locking cause => lockEffect cause s
    | .reset | .running => s

/-- SUPPLY_LOSS (R14): the device is held in reset until the supply is valid again, and all state is lost. -/
def execSupplyLoss (s : State) : Host.Outcome State Fault Refusal :=
  .next <| if s.pins.supply then heldInReset (s.setPins { s.pins with supply := false }) else s

end Sys2Proof.Machine
end

