-- ==== Sys2Proof/Machine/SafeInput.lean ====
section
/-! DEFINITION. The SAFE_N input: SAFE_N_CHANGE and SAFE_N_QUALIFIED (R98). -/

namespace Sys2Proof.Machine

/-- SAFE_N sampled at its present level: a level that differs from the qualified state starts a candidate, one that agrees
with it abandons a candidate (R98). -/
def sampleSafe (s : State) : State :=
  let sampled := s.setFlags { s.flags with safeSampled := true }
  if s.pins.safeN = s.safe.qualified then sampled.setSafe { s.safe with candidate := none }
  else
    match s.safe.candidate with
    | none => sampled.setSafe { s.safe with candidate := some ⟨s.pins.safeN, s.tb.tick⟩ }
    | some _ => s

/-- SAFE_N_CHANGE (R98): SAFE_N goes to a level and is sampled there, once a tick (log 16); outside the running device it is
not sampled. -/
def execSafeNChange (level : Level) (s : State) : Host.Outcome State Fault Refusal :=
  let s1 := s.setPins { s.pins with safeN := level }
  .next <| if running s && !s.flags.safeSampled then sampleSafe s1 else s1

/-- SAFE_N_QUALIFIED (R98): the candidate's level becomes the qualified state; a change to ASSERTED sets the safe latch with
cause INPUT if it is CLEAR. -/
def execSafeNQualified (s : State) : Host.Outcome State Fault Refusal :=
  .next <|
    if safeDue s then
      let s1 :=
        (s.setSafe { s.safe with qualified := s.pins.safeN, candidate := none }).setFlags
          { s.flags with safeSampled := true }
      match s.pins.safeN with
      | .low => setLatch .input s1
      | .high => s1
    else s

end Sys2Proof.Machine
end

