-- ==== Sys2Proof/Machine/ScheduleRequests.lean ====
section
/-! DEFINITION. The requests of the schedule store: the five edits of the shadow bank, BANK_READ, COMMIT and COMMIT_CANCEL
(R40 to R74). -/

namespace Sys2Proof.Machine

/-! ### The shadow bank and the edits (R45, R46) -/

/-- The bank whose role is SHADOW replaced (R45). -/
def Store.setShadow (st : Store) (b : Bank) : Store :=
  match st.active with
  | .a => { st with bankB := b }
  | .b => { st with bankA := b }

/-- The items that every edit reply carries: shadow bank id, entry count, frame length (R45, R175). -/
def editItems (st : Store) : List Byte :=
  [st.shadowId.code] ++ be2 st.shadow.entries.length ++ be3 st.shadow.length

/-- An edit (R45, R46): the FROZEN test, then the edit's own checks and effect on the shadow bank, given as the refusing
status or as the items after those of R45 and the new bank. A refusal carries `absent` in their place. -/
def editShadow (absent : List Byte) (edit : Bank → Except Status (List Byte × Bank)) (s : State) : State × List Byte :=
  match s.store.commit with
  | .pending _ => (s, body .frozen (editItems s.store ++ absent))
  | .idle =>
    match edit s.store.shadow with
    | .error status => (s, body status (editItems s.store ++ absent))
    | .ok (items, bank) =>
      (s.setStore (s.store.setShadow bank), body .ok (editItems (s.store.setShadow bank) ++ items))

/-- The index item of ENTRY_ADD and ENTRY_REMOVE (R175). -/
def indexItem (i : Option Nat) : List Byte := present be1 i

/-! ### ENTRY_ADD (R47 to R49) -/

/-- Whether an entry has a key (R43). -/
def Entry.hasKey (offset : Nat) (lane : Lane) (e : Entry) : Bool := decide (e.offset = offset ∧ e.lane = lane)

/-- The index of a key in a list: the number of entries whose key comes before it (R49). -/
def keyIndex (offset : Nat) (lane : Lane) (es : List Entry) : Nat :=
  (es.filter fun e => keyBefore e.offset e.lane offset lane).length

/-- The checks of ENTRY_ADD after FROZEN, in order, and the insertion at the key's place (R48, R49). -/
def addEntry (b : List Byte) (bank : Bank) : Except Status (List Byte × Bank) :=
  match readEntry b with
  | none => .error .badValue
  | some e =>
    if e.valid bank.length = false then .error .badValue
    else if bank.entries.any (Entry.hasKey e.offset e.lane) then .error .duplicate
    else if Config.bankPlaces ≤ bank.entries.length then .error .bankFull
    else
      let i := keyIndex e.offset e.lane bank.entries
      .ok (indexItem (some i), { bank with entries := bank.entries.take i ++ e :: bank.entries.drop i })

/-- ENTRY_ADD (R49). -/
def execEntryAdd (s : State) : Host.Outcome State Fault Refusal :=
  .next <| serve .entryAdd (fun b s => editShadow (indexItem none) (addEntry b) s) s

/-! ### ENTRY_REMOVE (R50) -/

/-- The checks of ENTRY_REMOVE after FROZEN, in order, and the removal (R50). -/
def removeEntry (b : List Byte) (bank : Bank) : Except Status (List Byte × Bank) :=
  match b with
  | [o2, o1, o0, laneByte] =>
    match readLane laneByte with
    | none => .error .badValue
    | some lane =>
      let offset := beNat [o2, o1, o0]
      if bank.length ≤ offset then .error .badValue
      else if bank.entries.any (Entry.hasKey offset lane) then
        let i := keyIndex offset lane bank.entries
        .ok (indexItem (some i), { bank with entries := bank.entries.take i ++ bank.entries.drop (i + 1) })
      else .error .notFound
  | _ => .error .badValue

/-- ENTRY_REMOVE (R50). -/
def execEntryRemove (s : State) : Host.Outcome State Fault Refusal :=
  .next <| serve .entryRemove (fun b s => editShadow (indexItem none) (removeEntry b) s) s

/-! ### BANK_CLEAR, BANK_COPY, BANK_LENGTH (R51 to R53) -/

/-- BANK_CLEAR (R51): the shadow's list emptied, its length kept. -/
def execBankClear (s : State) : Host.Outcome State Fault Refusal :=
  .next <| serve .bankClear (fun _ s => editShadow [] (fun bank => .ok ([], { bank with entries := [] })) s) s

/-- BANK_COPY (R52): the shadow becomes a copy of the active bank. -/
def execBankCopy (s : State) : Host.Outcome State Fault Refusal :=
  .next <| serve .bankCopy (fun _ s => editShadow [] (fun _ => .ok ([], s.store.activeBank)) s) s

/-- The checks of BANK_LENGTH after FROZEN and the new length (R53). -/
def lengthenBank (b : List Byte) (bank : Bank) : Except Status (List Byte × Bank) :=
  let length := beNat b
  if length < Config.minLength ∨ Config.maxLength < length then .error .badValue
  else if bank.entries.any (fun e => decide (length ≤ e.offset)) then .error .badValue
  else .ok ([], { bank with length := length })

/-- BANK_LENGTH (R53). -/
def execBankLength (s : State) : Host.Outcome State Fault Refusal :=
  .next <| serve .bankLength (fun b s => editShadow [] (lengthenBank b) s) s

/-! ### BANK_READ (R55, R56) -/

/-- The role of a bank: 0 ACTIVE, 1 SHADOW (R40, R56). -/
def roleCode (st : Store) (id : BankId) : Byte := if id = st.active then 0 else 1

/-- The items of an accepted BANK_READ: the bank as it stands and at most 16 entries from the first index (R56, R175). -/
def bankItems (st : Store) (id : BankId) (first : Nat) : List Byte :=
  let bank := st.bank id
  let page := (bank.entries.drop first).take Config.readPage
  [id.code, roleCode st id] ++ be3 bank.length ++ be2 bank.entries.length ++ be2 first ++ be1 page.length
    ++ page.flatMap Entry.bytes

/-- BANK_READ carried out (R55, R56); BAD_VALUE is the status alone (R175). -/
def ownBankRead (b : List Byte) (s : State) : State × List Byte :=
  match b with
  | [idByte, i1, i0] =>
    match readBank idByte with
    | none => (s, body .badValue [])
    | some id =>
      if (s.store.bank id).entries.length < beNat [i1, i0] then (s, body .badValue [])
      else (s, body .ok (bankItems s.store id (beNat [i1, i0])))
  | _ => (s, body .badValue [])

/-- BANK_READ (R56). -/
def execBankRead (s : State) : Host.Outcome State Fault Refusal := .next <| serve .bankRead ownBankRead s

/-! ### COMMIT (R62, R63) and COMMIT_CANCEL (R67) -/

/-- The items of a COMMIT reply: target, frame at dispatch, bank to become active (R63, R175). -/
def commitItems (target : Option FrameNo) (frame : FrameNo) (bank : Option BankId) : List Byte :=
  present be4 (target.map BitVec.toNat) ++ frameBytes frame ++ [(bank.map BankId.code).getD absentByte]

/-- The effective target of a COMMIT body, or the status of check 3 or 4 (R62). With NEXT the frame number is not
examined. -/
def commitTarget (b : List Byte) (current : FrameNo) : Except Status FrameNo :=
  match b with
  | kind :: number =>
    if kind = 0 then .ok (current + 1)
    else if kind = 1 then
      match judge (BitVec.ofNat 32 (beNat number)) current with
      | some status => .error status
      | none => .ok (BitVec.ofNat 32 (beNat number))
    else .error .badValue
  | [] => .error .badValue

/-- COMMIT carried out (R62, R63): the four checks in order, then PENDING with the effective target. -/
def ownCommit (b : List Byte) (s : State) : State × List Byte :=
  match s.store.commit with
  | .pending target => (s, body .commitPending (commitItems (some target) s.tb.frame none))
  | .idle =>
    if s.tb.renumber.isSome then (s, body .renumberPending (commitItems none s.tb.frame none))
    else
      match commitTarget b s.tb.frame with
      | .error status => (s, body status (commitItems none s.tb.frame none))
      | .ok target =>
        (s.setStore { s.store with commit := .pending target },
          body .ok (commitItems (some target) s.tb.frame (some s.store.shadowId)))

/-- COMMIT (R62). -/
def execCommit (s : State) : Host.Outcome State Fault Refusal := .next <| serve .commit ownCommit s

/-- COMMIT_CANCEL carried out (R67). -/
def ownCommitCancel (_ : List Byte) (s : State) : State × List Byte :=
  match s.store.commit with
  | .pending target =>
    (s.setStore { s.store with commit := .idle }, body .ok ([s.store.active.code] ++ present be4 (some target.toNat)))
  | .idle => (s, body .notPending ([s.store.active.code] ++ present be4 none))

/-- COMMIT_CANCEL (R67). -/
def execCommitCancel (s : State) : Host.Outcome State Fault Refusal := .next <| serve .commitCancel ownCommitCancel s

end Sys2Proof.Machine
end

