-- ==== Sys2Proof/Machine/TimeRequests.lean ====
section
/-! DEFINITION. The requests of the timebase and the tracker: TIME_READ, FRAME_RENUMBER, TRACK_CONFIG and TRACK_STATUS. -/

namespace Sys2Proof.Machine

/-- TIME_READ carried out (R16, R17); it changes no state of the device, and the tick's offset has then been used. -/
def ownTimeRead (_ : List Byte) (s : State) : State × List Byte :=
  (useOffset s, body .ok (timeItems s.tracker.mode (readView s)))

/-- TIME_READ (R16, R17). -/
def execTimeRead (s : State) : Host.Outcome State Fault Refusal := .next <| serve .timeRead ownTimeRead s

/-- FRAME_RENUMBER carried out (R11): refused while a commit is pending. -/
def ownFrameRenumber (b : List Byte) (s : State) : State × List Byte :=
  match s.store.commit with
  | .pending _ => (s, body .commitPending (frameBytes s.tb.frame))
  | .idle =>
    (s.setTb { s.tb with renumber := some (BitVec.ofNat 32 (beNat b)) }, body .ok (frameBytes s.tb.frame))

/-- FRAME_RENUMBER (R11). -/
def execFrameRenumber (s : State) : Host.Outcome State Fault Refusal := .next <| serve .frameRenumber ownFrameRenumber s

/-- The five fields of TRACK_CONFIG, where each is in its range (R34). -/
structure TrackFields where
  mode : TrackMode
  w : Nat
  acqCount : Nat
  missLimit : Nat
  holdoverLimit : Nat
  deriving DecidableEq, Repr

/-- The fields read from the body and checked (R34, R171, R174). -/
def readTrackFields : List Byte → Option TrackFields
  | [mode, w1, w0, acq, miss, h1, h0] =>
    match readMode mode with
    | some mode =>
      if beNat [w1, w0] ≤ 1023 ∧ 2 ≤ acq.toNat ∧ acq.toNat ≤ 15 ∧ 1 ≤ miss.toNat ∧ miss.toNat ≤ 15 ∧ 1 ≤ beNat [h1, h0] then
        some ⟨mode, beNat [w1, w0], acq.toNat, miss.toNat, beNat [h1, h0]⟩
      else none
    | none => none
  | _ => none

/-- The change of mode, made after the parameters of the same request (R35). -/
def Tracker.setMode (mode : TrackMode) (frame : FrameNo) (t : Tracker) : Tracker × List Event :=
  if t.mode = mode then (t, [])
  else
    ({ t with mode := mode, candidate := none }).change
      (match mode with | .externalMode => .acquire | .localMode => .free) .config frame

/-- The frame at the dispatch of a TRACK_CONFIG (R37): the current one; on a boundary tick, before the tracker's own action
there, the one that ends or the one that begins, as a free value says (R36, log 7). -/
def configFrame (s : State) : FrameNo :=
  if s.flags.boundaryDue && Config.configInNewFrame s.choices s.tb.tick then nextNumber s else s.tb.frame

/-- The pulse held for this tick's boundary is taken before the request (R22, R36). -/
def applyHeld (s : State) : State :=
  match s.flags.pulseHeld with
  | .held =>
    let r := s.tracker.inWindow 0 (nextNumber s)
    raise .tracker r.2 ((s.setTracker r.1).setFlags { s.flags with pulseHeld := .applied })
  | .none | .applied => s

/-- The parameters and the mode of an accepted TRACK_CONFIG (R34, R35). -/
def configure (f : TrackFields) (s : State) : State :=
  let r :=
    ({ s.tracker with
        w := f.w, acqCount := f.acqCount, missLimit := f.missLimit, holdoverLimit := f.holdoverLimit }).setMode
      f.mode (configFrame s)
  raise .tracker r.2 (s.setTracker r.1)

/-- TRACK_CONFIG carried out (R34, R35, R36). -/
def ownTrackConfig (b : List Byte) (s : State) : State × List Byte :=
  let s1 := applyHeld s
  match readTrackFields b with
  | none => (s1, body .badValue [s1.tracker.mode.code, s1.tracker.state.code])
  | some f =>
    let s2 := configure f s1
    (s2, body .ok [s2.tracker.mode.code, s2.tracker.state.code])

/-- TRACK_CONFIG (R34). -/
def execTrackConfig (s : State) : Host.Outcome State Fault Refusal := .next <| serve .trackConfig ownTrackConfig s

/-- TRACK_STATUS carried out (R38): strays and realignments cleared after the read if asked; a clear flag other than 0 or 1 is
BAD_VALUE, status alone (R171). -/
def ownTrackStatus (b : List Byte) (s : State) : State × List Byte :=
  match b.head?.bind readFlag with
  | none => (s, body .badValue [])
  | some clear =>
    (if clear then s.setTracker { s.tracker with strays := 0, realignments := 0 } else s,
      body .ok (trackStatusItems s.tracker))

/-- TRACK_STATUS (R38). -/
def execTrackStatus (s : State) : Host.Outcome State Fault Refusal := .next <| serve .trackStatus ownTrackStatus s

end Sys2Proof.Machine
end

