-- ==== Sys2Proof/Machine/Dispatch.lean ====
section
/-! DEFINITION. The meaning of each command, one arm each. -/

namespace Sys2Proof.Machine

def exec (i : Instr) (s : State) : Host.Outcome State Fault Refusal :=
  match i with
  | .powerOn baud1 baud0 => Sys2Proof.Machine.execPowerOn baud1 baud0 s
  | .resetNAssert => Sys2Proof.Machine.execResetNAssert s
  | .resetNRelease baud1 baud0 => Sys2Proof.Machine.execResetNRelease baud1 baud0 s
  | .synthesizerLock => Sys2Proof.Machine.execSynthesizerLock s
  | .referencePulse edge => Sys2Proof.Machine.execReferencePulse edge s
  | .nominalBoundary fires => Sys2Proof.Machine.execNominalBoundary fires s
  | .miss => Sys2Proof.Machine.execMiss s
  | .frameOutEnd => Sys2Proof.Machine.execFrameOutEnd s
  | .entryFire => Sys2Proof.Machine.execEntryFire s
  | .pulseEnd lane => Sys2Proof.Machine.execPulseEnd lane s
  | .safeNChange level => Sys2Proof.Machine.execSafeNChange level s
  | .safeNQualified => Sys2Proof.Machine.execSafeNQualified s
  | .inputLevelChange lane level => Sys2Proof.Machine.execInputLevelChange lane level s
  | .edgeQualified before => Sys2Proof.Machine.execEdgeQualified before s
  | .receiveFrame crcLow => Sys2Proof.Machine.execReceiveFrame crcLow s
  | .noiseByte byte => Sys2Proof.Machine.execNoiseByte byte s
  | .stopBitError => Sys2Proof.Machine.execStopBitError s
  | .lengthError byte => Sys2Proof.Machine.execLengthError byte s
  | .frameTimeout => Sys2Proof.Machine.execFrameTimeout s
  | .transmitStart => Sys2Proof.Machine.execTransmitStart s
  | .frameSent => Sys2Proof.Machine.execFrameSent s
  | .dueReplyPlace => Sys2Proof.Machine.execDueReplyPlace s
  | .restartReplyPlace => Sys2Proof.Machine.execRestartReplyPlace s
  | .restartTakesEffect => Sys2Proof.Machine.execRestartTakesEffect s
  | .unknownKind => Sys2Proof.Machine.execUnknownKind s
  | .identify => Sys2Proof.Machine.execIdentify s
  | .linkStats => Sys2Proof.Machine.execLinkStats s
  | .restart => Sys2Proof.Machine.execRestart s
  | .syncWait => Sys2Proof.Machine.execSyncWait s
  | .timeRead => Sys2Proof.Machine.execTimeRead s
  | .frameRenumber => Sys2Proof.Machine.execFrameRenumber s
  | .trackConfig => Sys2Proof.Machine.execTrackConfig s
  | .trackStatus => Sys2Proof.Machine.execTrackStatus s
  | .entryAdd => Sys2Proof.Machine.execEntryAdd s
  | .entryRemove => Sys2Proof.Machine.execEntryRemove s
  | .bankClear => Sys2Proof.Machine.execBankClear s
  | .bankCopy => Sys2Proof.Machine.execBankCopy s
  | .bankLength => Sys2Proof.Machine.execBankLength s
  | .bankRead => Sys2Proof.Machine.execBankRead s
  | .commit => Sys2Proof.Machine.execCommit s
  | .commitCancel => Sys2Proof.Machine.execCommitCancel s
  | .laneConfig => Sys2Proof.Machine.execLaneConfig s
  | .laneForce => Sys2Proof.Machine.execLaneForce s
  | .laneRelease => Sys2Proof.Machine.execLaneRelease s
  | .laneStatus => Sys2Proof.Machine.execLaneStatus s
  | .safeEnter => Sys2Proof.Machine.execSafeEnter s
  | .safeRelease => Sys2Proof.Machine.execSafeRelease s
  | .inputConfig => Sys2Proof.Machine.execInputConfig s
  | .latchRead => Sys2Proof.Machine.execLatchRead s
  | .captureGrant => Sys2Proof.Machine.execCaptureGrant s
  | .captureFlush => Sys2Proof.Machine.execCaptureFlush s
  | .captureStatus => Sys2Proof.Machine.execCaptureStatus s
  | .supplyLoss => Sys2Proof.Machine.execSupplyLoss s
  | .receiverArmed => Sys2Proof.Machine.execReceiverArmed s
  | .startBit => Sys2Proof.Machine.execStartBit s
  | .falseStart => Sys2Proof.Machine.execFalseStart s
  | .goodByte byte => Sys2Proof.Machine.execGoodByte byte s

end Sys2Proof.Machine
end

