-- ==== Sys2Proof/Machine/Clock.lean ====
section
/-! DEFINITION. What the device does on an empty queue (log 1, 6, 22): it takes one of the things due at the present tick, or,
where none of them has to be taken, its tick clock may advance by one. -/

namespace Sys2Proof.Machine

/-! ### The tick (R1, R2, R13) -/

/-- The offset at a new tick: one more, unless that would reach the planned length; the tick is then a boundary, and the offset
stays until the boundary is taken (R2, R17). -/
def Timebase.tickOn (tb : Timebase) : Timebase :=
  { tb with
    tick := tb.tick + 1
    offset := if tb.offset + 1 < tb.planned then tb.offset + 1 else tb.offset
    outTimer := tb.outTimer - 1 }

/-- The state at the first moment of a tick of the running device: the timebase counts, an edge of FRAME_IN that waits is
sampled (R19), the output levels of the tick before are kept for the hold levels (R91), and nothing has been taken yet. -/
def tickState (s : State) : State :=
  { s with
    tb := s.tb.tickOn
    pins := { s.pins with frameInEdge := false, outputsBefore := outPins s }
    flags :=
      { TickFlags.fresh s.pins.frameInEdge s.tracker.state with
        boundaryDue := decide (s.tb.planned ≤ s.tb.offset + 1) } }

/-- A tick of the running device begins; what the arbiter could give the transmitter and what the engine could dispatch at its
first moment is owed to it (R153, R166, log 22). -/
def beginTick (s : State) : State :=
  let t := tickState s
  t.setFlags { t.flags with sendOwed := if transmitDue t then turnOf t else .nothing, dispatchOwed := (openRequest t).isSome }

/-! ### The events due at the present tick -/

/-- The dispatch command of a request kind (R153). -/
def ReqKind.command : ReqKind → Instr
  | .identify => .identify
  | .linkStats => .linkStats
  | .restart => .restart
  | .syncWait => .syncWait
  | .timeRead => .timeRead
  | .frameRenumber => .frameRenumber
  | .trackConfig => .trackConfig
  | .trackStatus => .trackStatus
  | .entryAdd => .entryAdd
  | .entryRemove => .entryRemove
  | .bankClear => .bankClear
  | .bankCopy => .bankCopy
  | .bankLength => .bankLength
  | .bankRead => .bankRead
  | .commit => .commit
  | .commitCancel => .commitCancel
  | .laneConfig => .laneConfig
  | .laneForce => .laneForce
  | .laneRelease => .laneRelease
  | .laneStatus => .laneStatus
  | .safeEnter => .safeEnter
  | .safeRelease => .safeRelease
  | .inputConfig => .inputConfig
  | .latchRead => .latchRead
  | .captureGrant => .captureGrant
  | .captureFlush => .captureFlush
  | .captureStatus => .captureStatus

/-- The command that dispatches a request (R153, R155). -/
def Request.command (r : Request) : Instr :=
  match ReqKind.ofCode r.kind with
  | some k => k.command
  | none => .unknownKind

/-- A command, where its condition holds. -/
def dueIf (condition : Bool) (c : Instr) : List Instr := if condition then [c] else []

/-- The dispatch due at this tick (R153). -/
def dispatchDue (s : State) : List Instr :=
  match dispatchable s with
  | some r => [r.command]
  | none => []

/-- The command that hands the parser an item of RXD: a stop bit sampled low, or a good byte, in the parser's state (R141 to
R145), which on the restart tick is HUNT unless the byte completes a frame (R150). -/
def itemCommand (s : State) : Option Byte → Instr
  | none => .stopBitError
  | some b =>
    if (awaited s).isSome then .receiveFrame b
    else
      match if restartReady s then ParserState.hunt else s.link.parser.state with
      | .hunt => if b = Config.syncByte then .goodByte b else .noiseByte b
      | .len => if b.toNat ≤ Config.maxBody then .goodByte b else .lengthError b
      | .kind | .tag | .body | .crcHi | .crcLo => .goodByte b

/-- The events of the timebase, the tracker, the executor and the lanes due at this tick. -/
def frameEventsDue (s : State) : List Instr :=
  dueIf (running s && s.flags.edgeNow) (.referencePulse ⟨false, Config.firesAtOnce s.choices⟩)
    ++ dueIf (running s && s.flags.boundaryDue) (.nominalBoundary (Config.firesAtOnce s.choices))
    ++ dueIf (missDue s) .miss
    ++ dueIf (frameOutEndDue s) .frameOutEnd
    ++ dueIf (entryFireDue s) .entryFire
    ++ (allLanes.filter (pulseEndDue s)).map Instr.pulseEnd

/-- The events of the sampled pins due at this tick. -/
def pinEventsDue (s : State) : List Instr :=
  dueIf (safeChangeDue s) (.safeNChange s.pins.safeN)
    ++ dueIf (safeDue s) .safeNQualified
    ++ (allLanes.filter (inputChangeDue s)).map (fun lane => .inputLevelChange lane (s.pins.inputs.get lane))
    ++ dueIf (edgesDue s) (.edgeQualified (Config.lanesBefore s.choices))

/-- The events of the link port and the request engine due at this tick, but for the arbiter's choice and a dispatch. -/
def linkEventsDue (s : State) : List Instr :=
  dueIf (itemNow s) (itemCommand s (Config.rxdItem s.choices))
    ++ dueIf (timeoutDue s) .frameTimeout
    ++ dueIf (running s && sendEnded s) .frameSent
    ++ dueIf (dueReplyReady s) .dueReplyPlace
    ++ dueIf (running s && s.engine.restartReply.isSome && s.engine.due.isEmpty
        && decide (s.arb.replies.length < Config.replyPlaces)) .restartReplyPlace
    ++ dueIf (restartReady s) .restartTakesEffect

/-- What the device does on its own: one of its events, or an event raised at this tick entering the event queue (R165). -/
inductive OwnAct where
  | event (c : Instr)
  | enter (src : Source)
  deriving DecidableEq, Repr

/-- The blocks in the order of their names. -/
def allSources : List Source := [.tracker, .store, .executor, .safe]

/-- What has to be taken before the tick ends. -/
def mandatory (s : State) : List OwnAct :=
  (frameEventsDue s ++ pinEventsDue s ++ linkEventsDue s ++ dueIf (transmitDue s && s.flags.sendOwed != .nothing) .transmitStart
      ++ (if s.flags.dispatchOwed then dispatchDue s else [])).map OwnAct.event
    ++ ((allSources.filter fun src => running s && mayEnter s src).map OwnAct.enter)

/-- What may be taken at this tick or at the next one: the arbiter's choice of a source, and a dispatch, that became possible
during the tick, or again possible, since the choice or the dispatch of the tick may have been tried before (R128, R153, R166,
log 22). -/
def elective (s : State) : List OwnAct :=
  (dueIf (transmitDue s && s.flags.sendOwed == .nothing) .transmitStart
      ++ (if s.flags.dispatchOwed then [] else dispatchDue s)).map OwnAct.event

/-- What the device may do next on its own at this tick. -/
def due (s : State) : List OwnAct := mandatory s ++ elective s

/-- What the device does next on its own: one of the things due, which one being a free value, or, where nothing of it has to
be taken, possibly the next tick, `none` (log 6). -/
def ownAct (s : State) : Option OwnAct :=
  (due s)[Config.takenNext s.choices % ((due s).length + if (mandatory s).isEmpty then 1 else 0)]?

/-- One thing done by the device on its own. -/
def takeOwn (s : State) : OwnAct → Host.Outcome State Fault Refusal
  | .event c => exec c s
  | .enter src => .next (enter src s)

/-- What the device does on an empty queue: the next thing it does on its own, or a tick; outside the running device the tick
time does not count (R14) and the device idles. -/
def ownStep (s : State) : Host.Outcome State Fault Refusal :=
  if running s then
    let s1 := { s with choices := s.choices + 1 }
    match ownAct s with
    | some a => takeOwn s1 a
    | none => .next (beginTick s1)
  else .next s

end Sys2Proof.Machine
end

