-- ==== Sys2Proof/Safety.lean ====
section
/-! DEFINITION. What is true of the device at every tick: the laws that the chapters state of its state as a whole. -/

namespace Sys2Proof.Machine

/-- The tracker is in one of its five pairs of mode and state (R18). -/
abbrev TrackerPairLegal (s : State) : Prop := s.tracker.mode = .localMode ↔ s.tracker.state = .free

/-- A commit and a renumber are never both pending (R11). -/
abbrev CommitOrRenumber (s : State) : Prop := s.store.commit = .idle ∨ s.tb.renumber = none

/-- Every list of the device is within its capacity: the request queue, the reply cache, the waits with the due replies, the
reply queue, the event queue and the capture queue (R123, R151, R156, R158, R164, R165). -/
abbrev QueuesWithinCapacity (s : State) : Prop :=
  s.engine.requests.length ≤ 8 ∧ s.engine.cache.length ≤ 8 ∧ s.engine.waits.length + s.engine.due.length ≤ 4 ∧
    s.arb.replies.length ≤ 4 ∧ s.arb.events.length ≤ 16 ∧ s.cq.records.length ≤ 512

/-- The tags of the reply cache are distinct, and none is 0 (R156). -/
abbrev CacheTags (s : State) : Prop :=
  s.engine.cache.Pairwise (fun a b => a.key.tag ≠ b.key.tag) ∧ ∀ c ∈ s.engine.cache, c.key.tag ≠ 0

/-- The saturating counters stay within 16 bits (R26, R27, R30, R126, R127, R146, R165). -/
abbrev CountersWithinRange (s : State) : Prop :=
  s.tracker.misses ≤ 65535 ∧ s.tracker.strays ≤ 65535 ∧ s.tracker.realignments ≤ 65535 ∧ s.cq.credit ≤ 65535 ∧
    s.cq.lost ≤ 65535 ∧ s.arb.lost ≤ 65535 ∧ s.link.counters.framesOk ≤ 65535 ∧ s.link.counters.crcErrors ≤ 65535 ∧
    s.link.counters.lengthErrors ≤ 65535 ∧ s.link.counters.framingErrors ≤ 65535 ∧ s.link.counters.timeouts ≤ 65535 ∧
    s.link.counters.busyDropped ≤ 65535

/-- A bank keeps the rule of its list: a frame length in range, at most 256 entries, in strictly ascending order of offset and
then lane, each in range for the bank's length (R40 to R43). -/
abbrev Bank.ordered (b : Bank) : Prop :=
  (Config.minLength ≤ b.length ∧ b.length ≤ Config.maxLength) ∧ b.entries.length ≤ Config.bankPlaces ∧
    b.entries.Pairwise (fun e f => keyBefore e.offset e.lane f.offset f.lane = true) ∧
    ∀ e ∈ b.entries, e.valid b.length = true

/-- Both banks keep the rule (R43). -/
abbrev SchedulesOrdered (s : State) : Prop := s.store.bankA.ordered ∧ s.store.bankB.ordered

/-- The tracker's windows are in range (R20, R34). -/
abbrev WindowsInRange (s : State) : Prop := s.tracker.w ≤ 1023 ∧ s.tracker.window ≤ 1023

/-- The running frame: its starting length is the active bank's, the executor runs the active bank under the frame's number,
the offset is less than P, and P exceeds the starting length by at most 1,023 (R2, R3, R4, R58, R75). -/
abbrev FrameInStep (s : State) : Prop :=
  s.tb.startLen = s.store.activeBank.length ∧ s.exec.bank = s.store.active ∧ s.exec.frame = s.tb.frame ∧
    s.tb.offset < s.tb.planned ∧ s.tb.startLen ≤ s.tb.planned ∧ s.tb.planned ≤ s.tb.startLen + 1023

/-- No entry has been passed by: every entry of the running frame at an offset below the present one has been reached (R76). -/
abbrev NoEntryPassedBy (s : State) : Prop :=
  s.exec.cursor ≤ (s.store.bank s.exec.bank).entries.length ∧ ∀ e ∈ unreached s, s.tb.offset ≤ e.offset

/-- The frame and its schedule together. -/
abbrev FrameLaw (s : State) : Prop := SchedulesOrdered s ∧ WindowsInRange s ∧ FrameInStep s ∧ NoEntryPassedBy s

end Sys2Proof.Machine
end

