-- ==== Sys2Proof/Certificates/Slice0/Obligations.lean ====
section
/-! DEFINITION. The statements for the provers. -/

namespace Sys2Proof.Claims

open Sys2Proof.Machine

/-- A request that is dispatched at this tick, is no retry, and has the kind and the body length of `k` (R153, R154). -/
abbrev Fresh (k : ReqKind) (r : Request) (s : State) : Prop :=
  dispatchable s = some r ∧ r.kind = k.code ∧ r.body.length = k.bodyLength ∧ cachedReply r s.engine = none ∧
    absorbed r s.engine = false

/-- The reply to a request (R154). -/
def replyTo (r : Request) (b : List Byte) : Reply := ⟨r.kind + 0x40, r.tag, b, false⟩

/-- The state with the oldest request taken and answered: it has left the request queue, its reply stands at the tail of the
reply queue and in the cache, no other request is dispatched at this tick, and nothing else has changed. -/
def replied (r : Request) (b : List Byte) (s : State) : State :=
  { s with
    engine :=
      { s.engine with
        requests := s.engine.requests.tail
        cache := remember r.key (replyTo r b) s.engine.cache }
    arb := { s.arb with replies := s.arb.replies ++ [replyTo r b] }
    flags := { s.flags with dispatched := true } }

/-- The state with the oldest request taken and nothing else changed. -/
def taken (s : State) : State :=
  { s with
    engine := { s.engine with requests := s.engine.requests.tail }
    flags := { s.flags with dispatched := true } }

/-- Every output pin is high-impedance (R14). -/
abbrev OutputsOff (t : State) : Prop :=
  (∀ lane, outPin t lane = .highImpedance) ∧ frameOutPin t = .highImpedance ∧ txdPin t = .highImpedance

/-- Events raised by a block at this tick: they wait, behind those it raised before, to enter the event queue (R165). -/
def raised (src : Source) (es : List Event) (s : State) : State :=
  { s with flags := { s.flags with handed := s.flags.handed.put (s.flags.handed.of src ++ es) src } }

/-- The record that the tick's timestamp or offset has been used (log 8, log 27). -/
def offsetUsed (s : State) : State :=
  { s with
    flags :=
      { s.flags with
        settled := s.flags.settled || !s.flags.boundaryDue
        stamped := s.flags.stamped || endsNow s } }

/-- A rising edge given at this tick is a pulse of this tick (R19, log 8): the device runs, no restart is due, and the edge has
been sampled already, or no pulse has been taken at this tick, its offset inside the frame has not been used, and the pulse
does not turn a boundary into a CUT whose COMMITTED event has entered the event queue. -/
abbrev PulseTakenNow (s : State) : Prop :=
  s.phase = .running ∧ restartReady s = false ∧
    (s.flags.edgeNow = true ∨
      (s.flags.pulseTaken = false ∧ (s.flags.settled = false ∨ s.tb.offset = 0) ∧
        (s.flags.reported = false ∨ realigns s = false)))

/-- The state with the pulse marked as this tick's one pulse. -/
def pulsed (s : State) : State := { s with flags := { s.flags with pulseTaken := true, edgeNow := false } }

/-- What TIME_READ reads of the blocks as they stand (R16); where the pulse sampled at this tick is going to end the frame, its
offset is the one before, the frame's last (R17). -/
def standing (s : State) : ReadView :=
  ⟨s.tb.frame, if s.flags.boundaryDue = false ∧ endsNow s = true then s.tb.offset - 1 else s.tb.offset, s.tb.renumber,
    s.tracker.state, s.store.active, s.store.commit⟩

/-- The reading `v` takes the timebase, the tracker and the schedule store each as `now` or as `before` the boundary (R17). -/
def OneSideEach (v now : ReadView) : Option ReadView → Prop
  | none => v = now
  | some before =>
    ((v.frame, v.offset, v.renumber) = (now.frame, now.offset, now.renumber) ∨
      (v.frame, v.offset, v.renumber) = (before.frame, before.offset, before.renumber)) ∧
    (v.state = now.state ∨ v.state = before.state) ∧
    ((v.active, v.commit) = (now.active, now.commit) ∨ (v.active, v.commit) = (before.active, before.commit))

/-- The number that the next frame takes (R7). -/
def nextFrame (s : State) : FrameNo :=
  match s.tb.renumber with
  | some f => f
  | none => s.tb.frame + 1

/-- The bank that is active for the next frame (R3, R69). -/
def nextActive (s : State) : BankId :=
  if s.store.commit = .pending (nextFrame s) then s.store.active.other else s.store.active

/-- The frame length of the next frame. -/
def nextLength (s : State) : Nat := (s.store.bank (nextActive s)).length

/-- The selected entries of the running frame that have not been reached (R77, R83). -/
def leftOver (s : State) : List Entry := (unreached s).filter fun e => s.exec.frame.toNat % e.period == e.phase

/-- The reaction of LOCKED and HOLDOVER to a change of the frame length at the coming boundary (R33). -/
def lengthEvents (s : State) (state : TrackState) : List Event :=
  if nextLength s ≠ s.tb.startLen ∧ (state = .locked ∨ state = .holdover) then
    [.trackerState state .acquire .length (nextFrame s)]
  else []

/-- The events that the tracker raises at a boundary of the present tick (R25, R28, R30, R31, R33, R37). -/
def trackerEvents (cause : Cause) (length : Nat) (s : State) : List Event :=
  let returned :=
    if s.tracker.state = .holdover then
      .trackerState .holdover .locked .pulse (nextFrame s) :: lengthEvents s .locked
    else lengthEvents s s.tracker.state
  match cause with
  | .nominal =>
    if s.flags.pulseHeld = .held then returned
    else if s.tracker.state = .holdover ∧ s.tracker.holdoverLimit ≤ s.tracker.holdover + 1 then
      [.trackerState .holdover .lost .holdoverLimit (nextFrame s)]
    else lengthEvents s s.tracker.state
  | .early => returned
  | .cut =>
    .realigned (nextFrame s) s.tb.frame length (leftOver s).length ::
      .trackerState s.tracker.state .locked .realign (nextFrame s) :: lengthEvents s .locked

/-- The ACTION events of firings, in their order: one for each entry with notify yes (R86, R87). -/
def actionsOf (fs : List Firing) : List Event :=
  (fs.filter fun f => f.entry.notify).map fun f =>
    .action f.frame f.entry.offset f.entry.lane f.entry.action f.entry.tag f.squeezed f.bank

/-- A COMMITTED event of a NOMINAL boundary, reported with cause CUT (R6, R73). -/
def asCut : Event → Event
  | .committed frame active length .nominal => .committed frame active length .cut
  | e => e

/-- The byte of a character is taken at this tick, the middle of its stop bit (R136, log 12). -/
abbrev ByteNow (start : Tick) (s : State) : Prop :=
  s.phase = .running ∧ s.link.receiver = .armed ∧ s.link.character = .reading start ∧
    (s.tb.tick - start).toNat = middleTick s.link.baud 9

/-- A number of ticks nearest to the time of `halves` half bit times at a baud (R136, R137). -/
abbrev NearestTick (baud : Baud) (halves ticks : Nat) : Prop :=
  halves * 100000000 ≤ 2 * ticks * baud.rate + baud.rate ∧ 2 * ticks * baud.rate ≤ halves * 100000000 + baud.rate

/-- Whether an edge setting passes an edge to a level (R112). -/
abbrev Passes (e : EdgeSetting) (level : Level) : Prop :=
  e = .both ∨ (e = .rise ∧ level = .high) ∨ (e = .fall ∧ level = .low)

/-- Whether an offset is open under a gate, or there is none (R112, R114). -/
abbrev OpenAt (g : Option Gate) (o : Nat) : Prop :=
  (g.all fun g =>
    decide ((g.first < g.last ∧ g.first ≤ o ∧ o < g.last) ∨ (g.last ≤ g.first ∧ (g.first ≤ o ∨ o < g.last)))) = true

/-- What a lane's edge qualified at this tick gives, where it is captured: direction, timestamp and quality (R111 to R115). -/
def captured (before : BitVec 16) (s : State) (lane : Lane) : Option (EdgeDir × FrameNo × Nat × TrackState) :=
  (s.capture.lanes.get lane).candidate.bind fun c =>
    let stamp := edgeStamp s c.start
    if laneDue s lane = true ∧ Passes (s.capture.lanes.get lane).edge c.level ∧ OpenAt (s.capture.lanes.get lane).gate stamp.2
    then
      some (if c.level = .high then .rise else .fall, stamp.1, stamp.2,
        if before.getLsbD lane.val then s.flags.stateBefore else s.tracker.state)
    else none

/-- The capture records of a group in ascending order of lane, numbered on from a sequence number (R117, R125). -/
def groupRecords (before : BitVec 16) (s : State) : List CaptureRecord :=
  let caught := allLanes.filterMap fun lane =>
    if (s.capture.lanes.get lane).delivery = .queue then (captured before s lane).map fun x => (lane, x) else none
  caught.zipIdx.map fun ((lane, edge, frame, offset, quality), i) =>
    ⟨lane, edge, s.capture.seq + BitVec.ofNat 16 i, frame, offset, quality⟩

/-- A request equals the key of a cached or parked one in tag, kind, body length and CRC (R157, R161). -/
abbrev Matches (r : Request) (k : RetryKey) : Prop :=
  k.tag = r.tag ∧ k.kind = r.kind ∧ k.length = r.body.length ∧ k.crc = r.crc

end Sys2Proof.Claims

open Sys2Proof Sys2Proof.Machine Sys2Proof.Claims

/-! ### Steps -/

/-- A step takes the command at the front of the queue and runs it on the state with the queue's rest. -/
def Obligations.FrontCommandRuns : Prop :=
  ∀ (c : Instr) (rest : List Instr) (s : State), s.pending = c :: rest → step s = exec c { s with pending := rest }

/-- On an empty queue (log 1, log 6, log 22): the running device takes something that is due, an event of its own or a raised
event entering the event queue, or, where nothing of it has to be taken at this tick, begins the next tick: the tick time one
higher, the offset one higher unless that would reach P, the FRAME_OUT timer one lower and the output levels kept. Where nothing
is due at all the tick begins; outside the running device nothing changes. -/
def Obligations.EmptyQueueTakesDueEventOrTicks : Prop :=
  ∀ s : State, s.pending = [] →
    let s1 := { s with choices := s.choices + 1 }
    let TakesDue := (∃ c, OwnAct.event c ∈ due s ∧ step s = exec c s1) ∨
      ∃ src, OwnAct.enter src ∈ due s ∧ step s = .next (enter src s1)
    (s.phase = .running →
      (mandatory s ≠ [] → TakesDue) ∧ (TakesDue ∨ step s = .next (beginTick s1)) ∧
      (due s = [] → step s = .next (beginTick s1))) ∧
    (s.phase ≠ .running → step s = .next s) ∧
    (∀ a ∈ mandatory s, a ∈ due s) ∧
    let t := beginTick s1
    t.tb = { s.tb with
        tick := s.tb.tick + 1
        offset := if s.tb.offset + 1 < s.tb.planned then s.tb.offset + 1 else s.tb.offset
        outTimer := s.tb.outTimer - 1 } ∧
      (t.flags.boundaryDue = true ↔ ¬ s.tb.offset + 1 < s.tb.planned) ∧ t.flags.edgeNow = s.pins.frameInEdge ∧
      t.flags.sendOwed = (if transmitDue t then turnOf t else .nothing) ∧
      t.flags.dispatchOwed = (openRequest t).isSome ∧ t.flags.readBefore = none ∧ t.flags.stateBefore = s.tracker.state ∧
      t.pins.frameInEdge = false ∧ t.pins.outputsBefore = outPins s ∧ t.tracker = s.tracker ∧ t.store = s.store ∧ t.exec =
      s.exec ∧ t.lanes = s.lanes ∧ t.safe = s.safe ∧ t.capture = s.capture ∧ t.cq = s.cq ∧ t.link = s.link ∧ t.engine =
      s.engine ∧ t.arb = s.arb

/-- Every command, and every step, answers a next state: none faults and none is refused. -/
def Obligations.NoCommandStops : Prop :=
  (∀ (c : Instr) (s : State), ∃ t, exec c s = .next t) ∧ ∀ s : State, ∃ t, step s = .next t

/-- The events raised at a tick enter the event queue one at a time (log 7): a block's oldest goes to the tail, or is dropped and
counted where 16 are queued, and its later ones keep their order. Any block's next event may be the next to enter, but COMMITTED
waits while a sampled pulse may still make its boundary a CUT, and the tick does not end while one waits. -/
def Obligations.EventsEnterOneAtATime : Prop :=
  (∀ (src : Source) (e : Event) (rest : List Event) (s : State), s.flags.handed.of src = e :: rest →
    enter src s =
      { s with
        arb :=
          if s.arb.events.length < 16 then { s.arb with events := s.arb.events ++ [e] }
          else { s.arb with lost := if s.arb.lost < 65535 then s.arb.lost + 1 else 65535 }
        flags :=
          { s.flags with handed := s.flags.handed.put rest src, reported := s.flags.reported || src == .store } }) ∧
  (∀ (src other : Source) (es : List Event) (h : Handed),
    (h.put es src).of src = es ∧ (other ≠ src → (h.put es src).of other = h.of other)) ∧
  ∀ (src : Source) (s : State), s.phase = .running → s.flags.handed.of src ≠ [] →
    mandatory s ≠ [] ∧ (OwnAct.enter src ∈ due s ↔ (src = .store → s.flags.edgeNow = false))

/-! ### Power and reset (R14, R15, R138) -/

/-- POWER_ON and RESET_N_RELEASE sample the straps and begin the lock, outputs high-impedance and the receiver off; with RESET_N
low, or the supply not valid, the device stays in reset. That READY then carries cause PIN is the model's reading (log 17). -/
def Obligations.StrapsSampledAndLockBegun : Prop :=
  ∀ (baud1 baud0 : Level) (s : State),
    (s.pins.supply = false → ∃ t, exec (.powerOn baud1 baud0) s = .next t ∧ t.pins.supply = true ∧
      t.pins.resetN = s.pins.resetN ∧ OutputsOff t ∧ t.link.receiver = .off ∧ t.pending = s.pending ∧
      (s.pins.resetN = .high → t.phase = .locking .power ∧ t.link.baud = Baud.ofStraps baud1 baud0) ∧
      (s.pins.resetN = .low → t.phase = .reset)) ∧
    (s.pins.resetN = .low → ∃ t, exec (.resetNRelease baud1 baud0) s = .next t ∧ t.pins.resetN = .high ∧
      t.pins.supply = s.pins.supply ∧ OutputsOff t ∧ t.link.receiver = .off ∧ t.pending = s.pending ∧
      (s.pins.supply = true → t.phase = .locking .pin ∧ t.link.baud = Baud.ofStraps baud1 baud0) ∧
      (s.pins.supply = false → t.phase = .reset)) ∧
    Baud.ofStraps .low .low = .b115200 ∧ Baud.ofStraps .low .high = .b460800 ∧ Baud.ofStraps .high .low = .b1000000 ∧
    Baud.ofStraps .high .high = .b3000000

/-- RESET_N_ASSERT and SUPPLY_LOSS: every output is high-impedance, the receiver is off, a frame on TXD is cut off, and no
state of any block survives: what follows depends on the outside pins alone, beside the commands waiting and the model's own
choice counter (log 5, log 23). -/
def Obligations.ResetForgetsEverything : Prop :=
  (∀ s : State, s.pins.resetN = .high → ∃ t, exec .resetNAssert s = .next t ∧ t.phase = .reset ∧ t.pins.resetN = .low ∧
      OutputsOff t ∧ t.link.receiver = .off ∧ t.link.transmitter = .idle) ∧
    (∀ s : State, s.pins.supply = true → ∃ t, exec .supplyLoss s = .next t ∧ t.phase = .reset ∧ t.pins.supply = false ∧
      OutputsOff t ∧ t.link.receiver = .off ∧ t.link.transmitter = .idle) ∧
    ∀ s u : State, s.pins.supply = u.pins.supply → s.pins.resetN = u.pins.resetN → s.pins.safeN = u.pins.safeN →
      s.pins.inputs = u.pins.inputs → s.choices = u.choices → s.pending = u.pending →
      (s.pins.resetN = .high → exec .resetNAssert s = exec .resetNAssert u) ∧
      (s.pins.supply = true → exec .supplyLoss s = exec .supplyLoss u)

/-- SYNTHESIZER_LOCK: the reset values of every block as the chapters' tables give them. SAFE_N, RXD and the inputs are sampled
from the next tick on. -/
def Obligations.LockTakesResetValues : Prop :=
  ∀ (s : State) (cause : ReadyCause), s.phase = .locking cause → ∃ t, exec .synthesizerLock s = .next t ∧
    t.phase = .running ∧
    t.tb = ⟨0, 0, 0, 100000, 100000, 0, none, none, 8, true⟩ ∧
    t.tracker = ⟨.localMode, .free, 16, 3, 2, 1000, 16, none, false, 0, 0, 0, 0, 0⟩ ∧
    t.store = ⟨⟨100000, []⟩, ⟨100000, []⟩, .a, .idle⟩ ∧
    t.exec = ⟨.a, 0, 0, 0⟩ ∧
    (∀ lane, t.lanes.get lane = ⟨.off, .low, none, .low, .highImpedance⟩) ∧
    t.safe = ⟨none, .high, none⟩ ∧
    (∀ lane, (t.capture.lanes.get lane).edge = .off ∧ (t.capture.lanes.get lane).deglitch = 0 ∧
      (t.capture.lanes.get lane).gate = none ∧ (t.capture.lanes.get lane).delivery = .queue ∧
      (t.capture.lanes.get lane).qualified = s.pins.inputs.get lane ∧ (t.capture.lanes.get lane).candidate = none ∧
      (t.capture.lanes.get lane).latch.present = false ∧ (t.capture.lanes.get lane).latch.overwritten = false) ∧
    t.capture.seq = 0 ∧
    t.cq = ⟨[], 0, 0⟩ ∧
    (t.link.baud = s.link.baud ∧ t.link.receiver = .waitingHigh ∧ t.link.parser.state = .hunt ∧ t.link.gap = none ∧
      t.link.transmitter = .idle ∧ t.link.counters = ⟨0, 0, 0, 0, 0, 0⟩ ∧ t.link.character = .idle) ∧
    t.engine = ⟨.running, [], none, [], [], [], none⟩ ∧
    t.arb = ⟨[], [.ready cause], 0⟩ ∧
    (t.flags.safeSampled = true ∧ t.flags.rxdSampled = true ∧ t.flags.sampled = 0xFFFF ∧ ∀ src, t.flags.handed.of src = []) ∧
    t.pending = s.pending

/-- RESTART_TAKES_EFFECT: every block takes its RESTART values; the link port keeps its baud, its counters and its receiver with
the character under way, the engine keeps its reply cache, an emptied latch record its other fields, and READY with cause
RESTART is the one event queued. -/
def Obligations.RestartKeepsOnlyLinkAndCache : Prop :=
  ∀ s : State, restartReady s = true → ∃ t, exec .restartTakesEffect s = .next t ∧
    t.phase = s.phase ∧
    t.tb = ⟨0, 0, 0, 100000, 100000, 0, none, none, 8, true⟩ ∧
    t.tracker = ⟨.localMode, .free, 16, 3, 2, 1000, 16, none, false, 0, 0, 0, 0, 0⟩ ∧
    t.store = ⟨⟨100000, []⟩, ⟨100000, []⟩, .a, .idle⟩ ∧
    t.exec = ⟨.a, 0, 0, 0⟩ ∧
    (∀ lane, t.lanes.get lane = ⟨.off, .low, none, .low, .highImpedance⟩) ∧
    t.safe = ⟨none, .high, none⟩ ∧
    (∀ lane, t.capture.lanes.get lane =
      ⟨.off, 0, none, .queue, s.pins.inputs.get lane, none,
        { (s.capture.lanes.get lane).latch with present := false, overwritten := false }⟩) ∧
    t.capture.seq = 0 ∧
    t.cq = ⟨[], 0, 0⟩ ∧
    (t.link.baud = s.link.baud ∧ t.link.counters = s.link.counters ∧ t.link.receiver = s.link.receiver ∧
      t.link.parser.state = .hunt ∧ t.link.gap = none ∧ t.link.transmitter = .idle ∧
      (s.link.character = .idle → t.link.character = .idle) ∧
      (∀ start, s.link.character = .reading start → ∃ start', t.link.character = .reading start' ∧
        elapsed t.tb start' = elapsed s.tb start) ∧
      (∀ start, s.link.character = .stopping start → ∃ start', t.link.character = .stopping start' ∧
        elapsed t.tb start' = elapsed s.tb start)) ∧
    t.engine = ⟨.running, [], none, s.engine.cache, [], [], none⟩ ∧
    t.arb = ⟨[], [.ready .restart], 0⟩ ∧ (∀ src, t.flags.handed.of src = []) ∧
    t.pins = s.pins ∧ t.pending = s.pending

/-- On the restart tick (log 14) a pulse is taken after the restart, in LOCAL, and changes nothing; a byte that completes a frame
is judged before the parser's reset, counted, and handed to the restarted engine where its CRC is equal; any other byte, and a
stop-bit error, is judged in HUNT. `u` is the state that the restart makes. -/
def Obligations.RestartComesFirstOnItsTick : Prop :=
  (∀ (s u : State) (fires : Nat), restartReady s = true → exec .restartTakesEffect s = .next u →
    exec (.referencePulse ⟨false, fires⟩) s = .next (pulsed u) ∧
    exec (.referencePulse ⟨true, fires⟩) s = .next { u with pins := { u.pins with frameInEdge := true } }) ∧
  ∀ (s u : State) (start : Tick) (b : Byte), restartReady s = true → exec .restartTakesEffect s = .next u → ByteNow start s →
    let n := s.link.counters
    let ended := { u.link with character := .stopping (start - s.tb.tick) }
    (s.link.parser.state ≠ .crcLo → s.flags.oldParser = none →
      (b = 0xA5 → exec (.goodByte b) s = .next
        { u with link := { ended with parser := ⟨.len, 0, 0, 0, [], 0xFFFF, 0⟩, gap := some 0 } }) ∧
      (b ≠ 0xA5 → exec (.noiseByte b) s = .next
        { u with link := { ended with counters := { n with framingErrors := satSucc n.framingErrors } } })) ∧
    exec .stopBitError s = .next
      { u with
        link :=
          { u.link with
            character := .idle, receiver := .waitingHigh
            counters := { n with framingErrors := satSucc n.framingErrors } }
        flags := { u.flags with oldParser := none, rxdSampled := true } } ∧
    (s.link.parser.state = .crcLo →
      let p := s.link.parser
      (p.crcHigh ++ b ≠ p.crc → exec (.receiveFrame b) s = .next
        { u with
          link := { ended with counters := { n with crcErrors := satSucc n.crcErrors } }
          flags := { u.flags with oldParser := none } }) ∧
      (p.crcHigh ++ b = p.crc → exec (.receiveFrame b) s = .next
        { u with
          link := { ended with counters := { n with framesOk := satSucc n.framesOk } }
          engine := { u.engine with requests := [⟨p.kind, p.tag, p.body, p.crc⟩] }
          flags := { u.flags with oldParser := none } }))

/-! ### Frames and boundaries (R2, R3, R7, R9, R13, R69, R75) -/

/-- NOMINAL_BOUNDARY: the frame ends after exactly P ticks, in a boundary of cause NOMINAL; the next begins at offset 0 with its
number, its bank's length and FRAME_OUT high; the pins sampled, the capture side, the link, the requests and the replies are as
they were. Where no boundary is due the command changes nothing (log 2). -/
def Obligations.NominalBoundaryBeginsFrame : Prop :=
  (∀ (fires : Nat) (s : State), s.phase = .running → s.flags.boundaryDue = true →
    ∃ t, exec (.nominalBoundary fires) s = .next t ∧ t = boundary .nominal s.tb.planned fires s ∧
      t.tb = ⟨s.tb.tick, nextFrame s, 0, nextLength s, nextLength s, s.tb.tick, some ⟨s.tb.frame, s.tb.start, s.tb.planned⟩, none,
        8, true⟩ ∧
      t.exec.bank = nextActive s ∧ t.exec.frame = nextFrame s ∧ t.flags.boundaryDue = false ∧
      t.phase = s.phase ∧ t.pins = s.pins ∧ t.safe = s.safe ∧ t.capture = s.capture ∧ t.cq = s.cq ∧ t.link = s.link ∧
      t.engine.requests = s.engine.requests ∧ t.engine.cache = s.engine.cache ∧ t.engine.refusal = s.engine.refusal ∧
      t.arb.replies = s.arb.replies ∧ t.pending = s.pending) ∧
  ∀ (fires : Nat) (s : State), (s.phase ≠ .running ∨ s.flags.boundaryDue = false) → exec (.nominalBoundary fires) s = .next s

/-- At a boundary of any cause the banks exchange roles exactly where a commit is pending for the frame that begins; the bank
records keep their content. COMMITTED is raised exactly then, and the tracker raises the events of its changes, REALIGNED
first at a CUT; they wait to enter the event queue one at a time (log 7). The pins, the safe control, the capture side, the
link, the requests, the replies and the event queue itself are as they were. -/
def Obligations.BoundarySwapsAtTarget : Prop :=
  ∀ (cause : Cause) (length fires : Nat) (s : State),
    let t := boundary cause length fires s
    t.store =
      (if s.store.commit = .pending (nextFrame s) then
        { s.store with active := s.store.active.other, commit := .idle }
      else s.store) ∧
    t.flags.handed.store = s.flags.handed.store ++
      (if s.store.commit = .pending (nextFrame s) then
        [.committed (nextFrame s) (nextActive s) (nextLength s) cause]
      else []) ∧
    t.flags.handed.tracker = s.flags.handed.tracker ++ trackerEvents cause length s ∧
    t.flags.handed.safe = s.flags.handed.safe ∧ t.flags.pulseHeld = .none ∧
    t.phase = s.phase ∧ t.pins = s.pins ∧ t.safe = s.safe ∧ t.capture = s.capture ∧ t.cq = s.cq ∧ t.link = s.link ∧
    t.engine.state = s.engine.state ∧ t.engine.requests = s.engine.requests ∧ t.engine.refusal = s.engine.refusal ∧
    t.engine.cache = s.engine.cache ∧ t.engine.restartReply = s.engine.restartReply ∧ t.arb = s.arb ∧
    t.choices = s.choices ∧ t.pending = s.pending

/-- The timestamp of a tick time by R9's table, row by row. The present tick is stamped as the timebase shows it once the tick's
boundary and its sampled pulse have been taken, whether or not they have been (the model's reading of R2, R5, R6 and R113,
log 27); an edge of this tick takes the same stamp, an earlier one the table's, from the frame records as they stand (log 29). -/
def Obligations.TicksAreStamped : Prop :=
  (∀ (tb : Timebase) (t : Tick),
    (tb.start ≤ t → stampOf tb t = (tb.frame, (t - tb.start).toNat)) ∧
    (t < tb.start → ∀ p, tb.prev = some p →
      (p.start ≤ t → stampOf tb t = (p.frame, (t - p.start).toNat)) ∧ (t < p.start → stampOf tb t = (p.frame, 0))) ∧
    (t < tb.start → tb.prev = none → stampOf tb t = (tb.frame, 0))) ∧
  (∀ s : State, s.flags.boundaryDue = false → s.flags.edgeNow = false → presentStamp s = (s.tb.frame, s.tb.offset)) ∧
  (∀ (s t : State) (fires : Nat), s.phase = .running → s.flags.boundaryDue = true → exec (.nominalBoundary fires) s = .next t →
    presentStamp s = (nextFrame s, 0) ∧ presentStamp s = (t.tb.frame, t.tb.offset)) ∧
  (∀ (s t : State) (fires : Nat), s.phase = .running → restartReady s = false → s.flags.boundaryDue = false →
    s.flags.edgeNow = true → exec (.referencePulse ⟨false, fires⟩) s = .next t →
    presentStamp s = (t.tb.frame, t.tb.offset)) ∧
  ∀ (s : State) (t : Tick), edgeStamp s t = if t = s.tb.tick then presentStamp s else stampOf s.tb t

/-- The tracker at a NOMINAL boundary: the new frame's window is the configured W; a pulse held for it (log 9) corrects it by +0; in
HOLDOVER without one the frame is counted, to LOST at the limit; where the frame length changes, LOCKED and HOLDOVER give
ACQUIRE with no candidate and the candidate of ACQUIRE is made absent. -/
def Obligations.TrackerAtNominalBoundary : Prop :=
  ∀ (fires : Nat) (s : State), s.phase = .running → s.flags.boundaryDue = true →
    ∃ t, exec (.nominalBoundary fires) s = .next t ∧
      t.tracker.window = s.tracker.w ∧ t.tracker.w = s.tracker.w ∧ t.tracker.mode = s.tracker.mode ∧
      (t.tracker.corrected = true ↔ s.flags.pulseHeld ≠ .none) ∧ t.tracker.strays = s.tracker.strays ∧
      t.tracker.realignments = s.tracker.realignments ∧
      (s.flags.pulseHeld = .held → (s.tracker.state = .locked ∨ s.tracker.state = .holdover) →
        t.tracker.misses = 0 ∧ t.tracker.holdover = 0 ∧ t.tracker.lastCorrection = 0 ∧
        t.tracker.state = (if nextLength s = s.tb.startLen then .locked else .acquire) ∧
        t.tracker.candidate = (if nextLength s = s.tb.startLen then s.tracker.candidate else none)) ∧
      (s.flags.pulseHeld ≠ .held →
        t.tracker.misses = s.tracker.misses ∧ t.tracker.lastCorrection = s.tracker.lastCorrection ∧
        (s.tracker.state = .holdover → t.tracker.holdover = s.tracker.holdover + 1 ∧
          t.tracker.state =
            (if s.tracker.holdoverLimit ≤ s.tracker.holdover + 1 then .lost
             else if nextLength s = s.tb.startLen then .holdover else .acquire) ∧
          (t.tracker.state ≠ .holdover → t.tracker.candidate = none)) ∧
        (s.tracker.state ≠ .holdover → t.tracker.holdover = s.tracker.holdover) ∧
        (s.tracker.state = .locked →
          t.tracker.state = (if nextLength s = s.tb.startLen then .locked else .acquire) ∧
          (nextLength s ≠ s.tb.startLen → t.tracker.candidate = none)) ∧
        (s.tracker.state = .acquire → t.tracker.state = .acquire ∧
          t.tracker.candidate = (if nextLength s = s.tb.startLen then s.tracker.candidate else none)) ∧
        (s.tracker.state = .lost ∨ s.tracker.state = .free →
          t.tracker.state = s.tracker.state ∧ t.tracker.candidate = s.tracker.candidate))

/-! ### Reference pulses (R19 to R32) -/

/-- In LOCKED or HOLDOVER a pulse in the window before the coming boundary ends the frame at once at its offset, with the
correction −(P − o); the state is LOCKED, or ACQUIRE with no candidate where the frame length changes at that boundary. -/
def Obligations.EarlyPulseEndsFrame : Prop :=
  ∀ (fires : Nat) (s : State), PulseTakenNow s → s.tracker.mode = .externalMode →
    (s.tracker.state = .locked ∨ s.tracker.state = .holdover) → s.flags.boundaryDue = false →
    (s.tracker.window < s.tb.offset ∨ s.tracker.corrected = true) → s.tb.planned ≤ s.tb.offset + s.tracker.window →
    ∃ t, exec (.referencePulse ⟨false, fires⟩) s = .next t ∧ t = boundary .early s.tb.offset fires (pulsed s) ∧
      t.tb = ⟨s.tb.tick, nextFrame s, 0, nextLength s, nextLength s, s.tb.tick, some ⟨s.tb.frame, s.tb.start, s.tb.offset⟩, none,
        8, true⟩ ∧
      t.tracker.lastCorrection = -((s.tb.planned : Int) - s.tb.offset) ∧ t.tracker.corrected = true ∧
      t.tracker.window = s.tracker.w ∧ t.tracker.misses = 0 ∧ t.tracker.holdover = 0 ∧
      t.tracker.state = (if nextLength s = s.tb.startLen then .locked else .acquire) ∧
      t.tracker.candidate = (if nextLength s = s.tb.startLen then s.tracker.candidate else none)

/-- In LOCKED or HOLDOVER: a pulse in the window after an uncorrected starting boundary stretches the frame by its offset, clears
the miss and holdover counts and gives LOCKED; a pulse that is neither late nor early is counted as a stray; a pulse taken before
the boundary of its tick is held for it (the model's reading of R22, log 9). Nothing else but this tick's pulse changes. -/
def Obligations.PulseLeavesTheFrameRunning : Prop :=
  ∀ (fires : Nat) (s : State), PulseTakenNow s → s.tracker.mode = .externalMode →
    (s.tracker.state = .locked ∨ s.tracker.state = .holdover) →
    (s.flags.boundaryDue = true → exec (.referencePulse ⟨false, fires⟩) s = .next
      { pulsed s with flags := { s.flags with pulseTaken := true, edgeNow := false, pulseHeld := .held } }) ∧
    (s.flags.boundaryDue = false → s.tb.offset ≤ s.tracker.window → s.tracker.corrected = false →
      exec (.referencePulse ⟨false, fires⟩) s = .next
        (raised .tracker
          (if s.tracker.state = .holdover then [.trackerState .holdover .locked .pulse s.tb.frame] else [])
          { pulsed s with
            tb := { s.tb with planned := s.tb.startLen + s.tb.offset }
            tracker :=
              { s.tracker with
                corrected := true, misses := 0, holdover := 0, lastCorrection := s.tb.offset, state := .locked } })) ∧
    (s.flags.boundaryDue = false → (s.tracker.window < s.tb.offset ∨ s.tracker.corrected = true) →
      s.tb.offset + s.tracker.window < s.tb.planned → exec (.referencePulse ⟨false, fires⟩) s = .next
        { pulsed s with
          tracker :=
            { s.tracker with strays := if s.tracker.strays < 65535 then s.tracker.strays + 1 else 65535 } })

/-- A pulse in LOCAL mode changes nothing but the record that this tick's pulse is taken; in LOST it gives ACQUIRE with the
candidate (t, 1) and its event, whose frame on the tick of a boundary still due is the one that begins (the model's reading of
R22, log 9); in ACQUIRE, where the run it ends is shorter than ACQ_COUNT, it changes only the candidate, whose count grows exactly
when the spacing lies from L − W to L + W (L on the tick of a boundary still due: log 28). An edge after this tick's sampling, or
one that this tick can no longer take, waits for the next tick (log 8). Outside the running device it changes nothing. -/
def Obligations.PulseOutsideTheWindows : Prop :=
  ∀ (fires : Nat) (s : State),
    (∀ late, s.phase ≠ .running → exec (.referencePulse ⟨late, fires⟩) s = .next s) ∧
    (∀ late, s.phase = .running → restartReady s = false → (late = true ∨ ¬ PulseTakenNow s) →
      exec (.referencePulse ⟨late, fires⟩) s = .next { s with pins := { s.pins with frameInEdge := true } }) ∧
    (PulseTakenNow s →
      (s.tracker.mode = .localMode → exec (.referencePulse ⟨false, fires⟩) s = .next (pulsed s)) ∧
      (s.tracker.mode = .externalMode → s.tracker.state = .lost →
        exec (.referencePulse ⟨false, fires⟩) s = .next
          (raised .tracker
            [.trackerState .lost .acquire .pulse (if s.flags.boundaryDue then nextFrame s else s.tb.frame)]
            { s with
              tracker := { s.tracker with state := .acquire, candidate := some ⟨s.tb.tick, 1⟩ }
              flags :=
                { s.flags with
                  pulseTaken := true, edgeNow := false, stamped := s.flags.stamped || s.flags.boundaryDue } })) ∧
      (s.tracker.mode = .externalMode → s.tracker.state = .acquire →
        (s.tracker.candidate = none → 1 < s.tracker.acqCount →
          exec (.referencePulse ⟨false, fires⟩) s = .next
            { pulsed s with tracker := { s.tracker with candidate := some ⟨s.tb.tick, 1⟩ } }) ∧
        (∀ c, s.tracker.candidate = some c →
          (s.tb.startLen ≤ (s.tb.tick - c.tick).toNat + s.tracker.w ∧
              (s.tb.tick - c.tick).toNat ≤ s.tb.startLen + s.tracker.w →
            c.count + 1 < s.tracker.acqCount →
            exec (.referencePulse ⟨false, fires⟩) s = .next
              { pulsed s with tracker := { s.tracker with candidate := some ⟨s.tb.tick, c.count + 1⟩ } }) ∧
          (¬ (s.tb.startLen ≤ (s.tb.tick - c.tick).toNat + s.tracker.w ∧
              (s.tb.tick - c.tick).toNat ≤ s.tb.startLen + s.tracker.w) →
            1 < s.tracker.acqCount →
            exec (.referencePulse ⟨false, fires⟩) s = .next
              { pulsed s with tracker := { s.tracker with candidate := some ⟨s.tb.tick, 1⟩ } }))))

/-- The pulse that completes an acquisition run, its spacing judged by the L of the frame then running (on the tick of a boundary
still due the model's choice, log 28), cuts the frame: at its offset, or at the planned length where its tick is the
one at which the frame reaches it; the tracker is LOCKED (ACQUIRE again where the frame length changes), the realignment is
counted and the last correction kept. Where the NOMINAL boundary of its tick has been taken, that boundary stands and is
reported with cause CUT, its COMMITTED event not having entered the event queue (the model's reading of R6, log 10). -/
def Obligations.RealignmentCutsFrame : Prop :=
  ∀ (fires : Nat) (s : State) (c : Candidate), PulseTakenNow s → s.tracker.mode = .externalMode →
    s.tracker.state = .acquire → s.tracker.candidate = some c →
    s.tb.startLen ≤ (s.tb.tick - c.tick).toNat + s.tracker.w →
    (s.tb.tick - c.tick).toNat ≤ s.tb.startLen + s.tracker.w → s.tracker.acqCount ≤ c.count + 1 →
    ((s.flags.boundaryDue = true ∨ s.tb.offset ≠ 0) →
      ∃ t, exec (.referencePulse ⟨false, fires⟩) s = .next t ∧
        t = boundary .cut (if s.flags.boundaryDue then s.tb.planned else s.tb.offset) fires (pulsed s) ∧
        t.tb.frame = nextFrame s ∧ t.tb.offset = 0 ∧ t.tb.planned = nextLength s ∧
        t.tb.prev = some ⟨s.tb.frame, s.tb.start, if s.flags.boundaryDue then s.tb.planned else s.tb.offset⟩ ∧
        t.tracker.corrected = true ∧ t.tracker.candidate = none ∧ t.tracker.misses = 0 ∧ t.tracker.holdover = 0 ∧
        t.tracker.realignments = satSucc s.tracker.realignments ∧ t.tracker.lastCorrection = s.tracker.lastCorrection ∧
        t.tracker.state = (if nextLength s = s.tb.startLen then .locked else .acquire)) ∧
    (s.flags.boundaryDue = false → s.tb.offset = 0 → ∀ p, s.tb.prev = some p →
      exec (.referencePulse ⟨false, fires⟩) s = .next
        { pulsed s with
          exec := { s.exec with discard := 0 }
          tracker :=
            { s.tracker with
              corrected := true, candidate := none, misses := 0, holdover := 0, state := .locked
              realignments := satSucc s.tracker.realignments }
          flags :=
            { s.flags with
              pulseTaken := true, edgeNow := false
              handed :=
                { s.flags.handed with
                  store := s.flags.handed.store.map asCut
                  tracker := s.flags.handed.tracker ++
                    [.realigned s.tb.frame p.frame p.length 0, .trackerState .acquire .locked .realign s.tb.frame] } } })

/-- MISS: at offset Wf + 1 with the start uncorrected, in LOCKED or HOLDOVER, the misses are counted; LOCKED gives HOLDOVER at
MISS_LIMIT. FRAME_OUT_END drives FRAME_OUT low when its timer has reached 0, and PULSE_END takes a pending end at its tick: level
0 and the end absent. Each changes nothing else but the event that waits and this tick's record. -/
def Obligations.TimedEventsAreTaken : Prop :=
  (∀ s : State, s.phase = .running → s.flags.boundaryDue = false → s.flags.edgeNow = false → s.flags.missJudged = false →
    (s.tracker.state = .locked ∨ s.tracker.state = .holdover) → s.tb.offset = s.tracker.window + 1 →
    s.tracker.corrected = false →
    let judged := { s.flags with missJudged := true, settled := true }
    exec .miss s = .next
      (if s.tracker.state = .locked ∧ s.tracker.missLimit ≤ satSucc s.tracker.misses then
        raised .tracker [.trackerState .locked .holdover .miss s.tb.frame]
          { s with
            tracker := { s.tracker with misses := satSucc s.tracker.misses, holdover := 0, state := .holdover }
            flags := judged }
      else
        { s with tracker := { s.tracker with misses := satSucc s.tracker.misses }, flags := judged })) ∧
  (∀ s : State, s.phase = .running → s.tb.outTimer = 0 → s.tb.frameOut = true →
    ∃ t, exec .frameOutEnd s = .next t ∧ t = { s with tb := { s.tb with frameOut := false } } ∧ frameOutPin t = .low) ∧
  ∀ (s : State) (lane : Lane), s.phase = .running → (s.lanes.get lane).pulseEnd = some s.tb.tick →
    exec (.pulseEnd lane) s = .next
      { s with lanes := s.lanes.set lane { s.lanes.get lane with level := .low, pulseEnd := none } }

/-! ### Actions (R76 to R87) -/

/-- ENTRY_FIRE: the entries at the present offset are those at the front of the entries not reached; the selected ones fire in
list order, each with notify yes raises its ACTION event, and the cursor moves past all of them. On the tick of a boundary it
makes the firings of the boundary that are still to be made (log 7). Nothing else changes. -/
def Obligations.EntriesFireAtTheirOffset : Prop :=
  (∀ (s : State) (here later : List Entry), s.phase = .running → s.flags.boundaryDue = false → s.flags.edgeNow = false →
    s.flags.waiting = [] →
    unreached s = here ++ later → here ≠ [] → (∀ e ∈ here, e.offset = s.tb.offset) →
    (∀ e ∈ later.head?, e.offset ≠ s.tb.offset) →
    let fs : List Firing := (here.filter fun e => s.exec.frame.toNat % e.period == e.phase).map fun e =>
      ⟨e, s.exec.frame, s.exec.bank, false⟩
    exec .entryFire s = .next
      (raised .executor (actionsOf fs)
        { s with
          lanes := fireAll s.tb.tick fs s.lanes
          exec := { s.exec with cursor := s.exec.cursor + here.length }
          flags := { s.flags with settled := true } })) ∧
  ∀ (s : State), s.phase = .running → s.flags.boundaryDue = false → s.flags.edgeNow = false → s.flags.waiting ≠ [] →
    exec .entryFire s = .next
      (raised .executor (actionsOf s.flags.waiting)
        { s with
          lanes := fireAll s.tb.tick s.flags.waiting s.lanes
          flags := { s.flags with waiting := [] } })

/-- Firing an entry changes the scheduled level and the pending pulse end of its lane as its action gives, whatever the lane's
mode; its other fields and the other lanes are as they were. -/
def Obligations.FiringChangesItsLane : Prop :=
  ∀ (t : Tick) (f : Firing) (v : Lanes OutLane),
    let e := f.entry
    (∀ lane, lane ≠ e.lane → (fireAll t [f] v).get lane = v.get lane) ∧
    (e.action = .set → (fireAll t [f] v).get e.lane = { v.get e.lane with level := .high, pulseEnd := none }) ∧
    (e.action = .clear → (fireAll t [f] v).get e.lane = { v.get e.lane with level := .low, pulseEnd := none }) ∧
    (e.action = .toggle → (fireAll t [f] v).get e.lane =
      { v.get e.lane with level := if (v.get e.lane).level = .low then .high else .low, pulseEnd := none }) ∧
    ∀ w, e.action = .pulse → e.width = some w → (fireAll t [f] v).get e.lane =
      { v.get e.lane with level := .high, pulseEnd := some (t + BitVec.ofNat 64 w) }

/-- How a boundary finishes the ending frame's schedule: at an EARLY one the selected entries not reached fire squeezed at the
boundary tick before the new frame's entries at offset 0; at a CUT one they are counted and none fires; at a NOMINAL one neither.
The ending frame's bank and number select them; firings with notify yes raise their ACTION events in the same order. A
boundary makes as many firings at once as its command says, and the rest wait for ENTRY_FIRE at the same tick (log 7). -/
def Obligations.BoundarySqueezesOrDiscards : Prop :=
  ∀ (length fires : Nat) (s : State),
    let left : List Firing := (leftOver s).map fun e => ⟨e, s.exec.frame, s.exec.bank, true⟩
    let first := ((s.store.bank (nextActive s)).entries.takeWhile fun e => decide (e.offset = 0))
    let begun : List Firing := (first.filter fun e => (nextFrame s).toNat % e.period == e.phase).map fun e =>
      ⟨e, nextFrame s, nextActive s, false⟩
    let Makes := fun (t : State) (fs : List Firing) =>
      t.lanes = fireAll s.tb.tick (fs.take fires) s.lanes ∧
        t.flags.handed.executor = s.flags.handed.executor ++ actionsOf (fs.take fires) ∧ t.flags.waiting = fs.drop fires
    Makes (boundary .early length fires s) (left ++ begun) ∧
    Makes (boundary .cut length fires s) begun ∧
    Makes (boundary .nominal length fires s) begun ∧
    (boundary .cut length fires s).exec = ⟨nextActive s, nextFrame s, first.length, left.length⟩ ∧
    (boundary .early length fires s).exec = ⟨nextActive s, nextFrame s, first.length, s.exec.discard⟩ ∧
    (boundary .nominal length fires s).exec = ⟨nextActive s, nextFrame s, first.length, s.exec.discard⟩

/-! ### The safe state (R90, R91, R98 to R101) -/

/-- SAFE_N_CHANGE samples SAFE_N once a tick (log 16): a level that differs from the qualified state starts a candidate, one that
agrees abandons it. SAFE_N_QUALIFIED takes the candidate's level after 100 ticks; a change to ASSERTED sets a CLEAR latch with
cause INPUT, writes every hold level from the pins of the tick before and raises SAFE_ENTERED with the tick's timestamp (log 27);
nothing else changes. -/
def Obligations.SafeInputIsQualified : Prop :=
  (∀ (level : Level) (s : State),
    let moved := { s with pins := { s.pins with safeN := level } }
    (s.phase = .running → s.flags.safeSampled = false →
      (level = s.safe.qualified → exec (.safeNChange level) s = .next
        { moved with safe := { s.safe with candidate := none }, flags := { s.flags with safeSampled := true } }) ∧
      (level ≠ s.safe.qualified → s.safe.candidate = none → exec (.safeNChange level) s = .next
        { moved with
          safe := { s.safe with candidate := some ⟨level, s.tb.tick⟩ }
          flags := { s.flags with safeSampled := true } }) ∧
      (level ≠ s.safe.qualified → s.safe.candidate ≠ none → exec (.safeNChange level) s = .next moved)) ∧
    ((s.phase ≠ .running ∨ s.flags.safeSampled = true) → exec (.safeNChange level) s = .next moved)) ∧
  ∀ (s : State) (c : LevelCandidate), s.phase = .running → s.flags.safeSampled = false → s.safe.candidate = some c →
    c.level = s.pins.safeN → s.tb.tick = c.start + 100 →
    (c.level = .low → s.safe.latch = none → exec .safeNQualified s = .next
      (raised .safe [.safeEntered .input (presentStamp s).1 (presentStamp s).2]
        { s with
          safe := ⟨some .input, .low, none⟩
          lanes := Lanes.zip (fun l p => { l with hold := p }) s.lanes s.pins.outputsBefore
          flags := { (offsetUsed s).flags with safeSampled := true } })) ∧
    ((c.level = .high ∨ s.safe.latch ≠ none) → exec .safeNQualified s = .next
      { s with
        safe := { s.safe with qualified := c.level, candidate := none }
        flags := { s.flags with safeSampled := true } })

/-- SAFE_ENTER sets a CLEAR latch with cause REQUEST, writes the hold levels from the pins of the tick before and raises
SAFE_ENTERED with the tick's timestamp; a latch already SET is kept. SAFE_RELEASE clears a SET latch with SAFE_RELEASED where SAFE_N is qualified
DEASSERTED, is refused with SAFE_INPUT_ACTIVE where it is ASSERTED, and does nothing where the latch is CLEAR. -/
def Obligations.SafeRequestsActOnTheLatch : Prop :=
  (∀ (s : State) (r : Request), Fresh .safeEnter r s →
    (s.safe.latch = none → exec .safeEnter s = .next
      (replied r [0x00, 0]
        (raised .safe [.safeEntered .request (presentStamp s).1 (presentStamp s).2]
          { offsetUsed s with
            safe := { s.safe with latch := some .request }
            lanes := Lanes.zip (fun l p => { l with hold := p }) s.lanes s.pins.outputsBefore }))) ∧
    (s.safe.latch ≠ none → exec .safeEnter s = .next (replied r [0x00, 1] s))) ∧
  ∀ (s : State) (r : Request), Fresh .safeRelease r s →
    (s.safe.latch = none → exec .safeRelease s = .next (replied r [0x00] s)) ∧
    (s.safe.latch ≠ none → s.safe.qualified = .low → exec .safeRelease s = .next (replied r [0x0F] s)) ∧
    (s.safe.latch ≠ none → s.safe.qualified = .high → exec .safeRelease s = .next
      (replied r [0x00]
        (raised .safe [.safeReleased (presentStamp s).1 (presentStamp s).2]
          { offsetUsed s with safe := { s.safe with latch := none } })))

/-- The level of an output pin by the lane's mode and the safe latch; outside the running device every output pin is
high-impedance. FRAME_OUT is no output lane, and the safe latch does not act on it. -/
def Obligations.PinFollowsModeAndLatch : Prop :=
  (∀ (s : State) (lane : Lane), s.phase ≠ .running → outPin s lane = .highImpedance) ∧
  (∀ (s : State) (x : Safe), frameOutPin { s with safe := x } = frameOutPin s) ∧
  ∀ (s : State) (lane : Lane), s.phase = .running →
    ((s.lanes.get lane).mode = .off → outPin s lane = .highImpedance) ∧
    (s.safe.latch = none →
      ((s.lanes.get lane).mode = .scheduled →
        outPin s lane = if (s.lanes.get lane).level = .high then .high else .low) ∧
      ((s.lanes.get lane).mode = .forcedHigh → outPin s lane = .high) ∧
      ((s.lanes.get lane).mode = .forcedLow → outPin s lane = .low)) ∧
    (s.safe.latch ≠ none → (s.lanes.get lane).mode ≠ .off →
      ((s.lanes.get lane).safe = .low → outPin s lane = .low) ∧
      ((s.lanes.get lane).safe = .high → outPin s lane = .high) ∧
      ((s.lanes.get lane).safe = .hold → outPin s lane = (s.lanes.get lane).hold) ∧
      ((s.lanes.get lane).safe = .off → outPin s lane = .highImpedance))

/-! ### Capture (R110 to R125) -/

/-- INPUT_LEVEL_CHANGE samples a pin once a tick (log 16): a level that differs from the qualified level starts a candidate, one
that agrees abandons it. Nothing else changes. -/
def Obligations.InputLevelIsSampled : Prop :=
  ∀ (lane : Lane) (level : Level) (s : State),
    let moved := { s with pins := { s.pins with inputs := s.pins.inputs.set lane level } }
    let l := s.capture.lanes.get lane
    let marked := { s.flags with sampled := s.flags.sampled ||| BitVec.twoPow 16 lane.val }
    (s.phase = .running → s.flags.sampled.getLsbD lane.val = false →
      (level = l.qualified → exec (.inputLevelChange lane level) s = .next
        { moved with
          capture := { s.capture with lanes := s.capture.lanes.set lane { l with candidate := none } }
          flags := marked }) ∧
      (level ≠ l.qualified → l.candidate = none → exec (.inputLevelChange lane level) s = .next
        { moved with
          capture := { s.capture with lanes := s.capture.lanes.set lane { l with candidate := some ⟨level, s.tb.tick⟩ } }
          flags := marked }) ∧
      (level ≠ l.qualified → l.candidate ≠ none → exec (.inputLevelChange lane level) s = .next moved)) ∧
    ((s.phase ≠ .running ∨ s.flags.sampled.getLsbD lane.val = true) →
      exec (.inputLevelChange lane level) s = .next moved)

/-- EDGE_QUALIFIED takes the whole group (log 11), before the tick's boundary or after it: every lane whose candidate completes at
this tick has its qualified level and no candidate; a lane that is neither due nor has a change to sample is untouched; no
configuration and no other block but the capture queue changes. -/
def Obligations.EdgeGroupIsQualified : Prop :=
  ∀ (before : BitVec 16) (s : State), edgesDue s = true → ∃ t, exec (.edgeQualified before) s = .next t ∧
    (∀ lane c, (s.capture.lanes.get lane).candidate = some c → laneDue s lane = true →
      (t.capture.lanes.get lane).qualified = c.level ∧ (t.capture.lanes.get lane).candidate = none) ∧
    (∀ lane, laneDue s lane = false → inputChangeDue s lane = false →
      t.capture.lanes.get lane = s.capture.lanes.get lane) ∧
    (∀ lane, (t.capture.lanes.get lane).edge = (s.capture.lanes.get lane).edge ∧
      (t.capture.lanes.get lane).deglitch = (s.capture.lanes.get lane).deglitch ∧
      (t.capture.lanes.get lane).gate = (s.capture.lanes.get lane).gate ∧
      (t.capture.lanes.get lane).delivery = (s.capture.lanes.get lane).delivery) ∧
    t.flags =
      { (if edgeOfThisTick (sampleRest s) then offsetUsed s else s).flags with sampled := 0xFFFF } ∧
    t.phase = s.phase ∧ t.pins = s.pins ∧ t.tb = s.tb ∧
    t.tracker = s.tracker ∧ t.store = s.store ∧ t.exec = s.exec ∧ t.lanes = s.lanes ∧ t.safe = s.safe ∧ t.link = s.link ∧
    t.engine = s.engine ∧ t.arb = s.arb ∧ t.cq.credit = s.cq.credit ∧ t.pending = s.pending

/-- A group of several lanes (log 11): its captured edges are taken in ascending order of lane. Each on a QUEUE lane takes the next
sequence number; the first of them fill the capture queue up to 512 records and the others are dropped and counted. Each on a
LATCH lane fills its latch record. The lanes that the tick has not sampled yet are sampled first. -/
def Obligations.GroupIsTakenInLaneOrder : Prop :=
  (∀ (before : BitVec 16) (s : State), edgesDue s = true → s.cq.lost ≤ 65535 →
    let s1 := sampleRest s
    let records := groupRecords before s1
    ∃ t, exec (.edgeQualified before) s = .next t ∧
      t.capture.seq = s.capture.seq + BitVec.ofNat 16 records.length ∧
      t.cq = ⟨s.cq.records ++ records.take (512 - s.cq.records.length), s.cq.credit,
        min 65535 (s.cq.lost + (records.length - (512 - s.cq.records.length)))⟩ ∧
      ∀ lane,
        let r := (s.capture.lanes.get lane).latch
        (t.capture.lanes.get lane).latch =
          (match (s.capture.lanes.get lane).delivery, captured before s1 lane with
           | .latch, some (edge, frame, offset, quality) => ⟨true, edge, frame, offset, quality, r.overwritten || r.present⟩
           | _, _ => r)) ∧
  ∀ (s : State) (lane : Lane),
    let l := s.capture.lanes.get lane
    (sampleRest s).capture.lanes.get lane =
      if inputChangeDue s lane = true then
        { l with
          candidate := if s.pins.inputs.get lane = l.qualified then none else some ⟨s.pins.inputs.get lane, s.tb.tick⟩ }
      else l

/-- One lane's edge qualified alone: it is captured when the edge setting passes its direction and the offset of its timestamp is
open under the gate; on a QUEUE lane it takes the sequence number and is stored, or dropped and counted at 512 records; on a
LATCH lane it fills the latch record; an edge that is not captured changes neither. The quality is the tracker's state, on the
side of a change at this tick that `before` names (log 11). -/
def Obligations.CapturedEdgeIsDelivered : Prop :=
  ∀ (before : BitVec 16) (s : State) (lane : Lane) (c : LevelCandidate), s.phase = .running →
    (s.capture.lanes.get lane).candidate = some c → laneDue s lane = true →
    (∀ other, other ≠ lane → laneDue s other = false) → (∀ other, inputChangeDue s other = false) →
    let l := s.capture.lanes.get lane
    let dir : EdgeDir := if c.level = .high then .rise else .fall
    let stamp := edgeStamp s c.start
    let quality := if before.getLsbD lane.val then s.flags.stateBefore else s.tracker.state
    let passes := l.edge = .both ∨ (l.edge = .rise ∧ c.level = .high) ∨ (l.edge = .fall ∧ c.level = .low)
    let isOpen := ∀ g, l.gate = some g →
      (g.first < g.last → g.first ≤ stamp.2 ∧ stamp.2 < g.last) ∧
      (g.last ≤ g.first → g.first ≤ stamp.2 ∨ stamp.2 < g.last)
    ∃ t, exec (.edgeQualified before) s = .next t ∧
      (¬ (passes ∧ isOpen) → t.cq = s.cq ∧ t.capture.seq = s.capture.seq ∧ (t.capture.lanes.get lane).latch = l.latch) ∧
      (passes ∧ isOpen → l.delivery = .queue →
        t.capture.seq = s.capture.seq + 1 ∧ (t.capture.lanes.get lane).latch = l.latch ∧
        (s.cq.records.length < 512 →
          t.cq = { s.cq with records := s.cq.records ++ [⟨lane, dir, s.capture.seq, stamp.1, stamp.2, quality⟩] }) ∧
        (512 ≤ s.cq.records.length →
          t.cq = { s.cq with lost := if s.cq.lost < 65535 then s.cq.lost + 1 else 65535 })) ∧
      (passes ∧ isOpen → l.delivery = .latch →
        t.capture.seq = s.capture.seq ∧ t.cq = s.cq ∧
        (t.capture.lanes.get lane).latch =
          ⟨true, dir, stamp.1, stamp.2, quality, l.latch.overwritten || l.latch.present⟩)

/-! ### The link (R136 to R148) -/

/-- GOOD_BYTE, at the middle of its character's stop bit (log 12), moves the parser one state on as the table of R141 gives and
restarts the gap timer, the character being then in its stop bit; nothing else changes. -/
def Obligations.GoodByteAdvancesParser : Prop :=
  ∀ (s : State) (start : Tick) (b : Byte), ByteNow start s → restartReady s = false →
    s.flags.oldParser = none →
    let p := s.link.parser
    let moved := fun q : Parser =>
      { s with link := { s.link with parser := q, gap := some s.tb.tick, character := .stopping start } }
    (p.state = .hunt → b = 0xA5 → exec (.goodByte b) s = .next (moved ⟨.len, 0, 0, 0, [], 0xFFFF, 0⟩)) ∧
    (p.state = .len → b.toNat ≤ 240 →
      exec (.goodByte b) s = .next (moved { p with state := .kind, length := b.toNat, crc := crcByte p.crc b })) ∧
    (p.state = .kind →
      exec (.goodByte b) s = .next (moved { p with state := .tag, kind := b, crc := crcByte p.crc b })) ∧
    (p.state = .tag →
      exec (.goodByte b) s = .next
        (moved { p with state := if p.length = 0 then .crcHi else .body, tag := b, crc := crcByte p.crc b })) ∧
    (p.state = .body →
      exec (.goodByte b) s = .next
        (moved { p with
          state := if p.body.length + 1 < p.length then .body else .crcHi
          body := p.body ++ [b], crc := crcByte p.crc b })) ∧
    (p.state = .crcHi → exec (.goodByte b) s = .next (moved { p with state := .crcLo, crcHigh := b }))

/-- The four faults below the frame's CRC: noise in HUNT, a stop-bit error, a length above 240 and a timeout each count in one
counter; the last three return the parser to HUNT with the gap timer stopped, and a stop-bit error has the receiver wait for RXD
to be high. A byte that no character brings at this tick, a noise byte that is SYNC, or a length that is not above 240, is no such
event and changes nothing (log 2, log 12). -/
def Obligations.LinkFaultsAreCounted : Prop :=
  (∀ (s : State) (start : Tick), ByteNow start s → restartReady s = false → s.flags.oldParser = none →
    let ended := { s.link with character := .stopping start }
    let n := s.link.counters
    (∀ b : Byte, b ≠ 0xA5 → s.link.parser.state = .hunt → exec (.noiseByte b) s = .next
      { s with link := { ended with counters := { n with framingErrors := satSucc n.framingErrors } } }) ∧
    exec .stopBitError s = .next
      { s with
        link :=
          { s.link with
            parser := Parser.hunt, gap := none, character := .idle, receiver := .waitingHigh
            counters := { n with framingErrors := satSucc n.framingErrors } }
        flags := { s.flags with rxdSampled := true } } ∧
    (∀ b : Byte, 240 < b.toNat → s.link.parser.state = .len → exec (.lengthError b) s = .next
      { s with
        link :=
          { ended with
            parser := Parser.hunt, gap := none, counters := { n with lengthErrors := satSucc n.lengthErrors } } })) ∧
  (∀ (s : State) (g : Tick), s.phase = .running → (∀ start, s.link.character ≠ .reading start) →
    s.link.parser.state ≠ .hunt →
    s.link.gap = some g → 64 * 100000000 < (s.tb.tick - g).toNat * s.link.baud.rate →
    exec .frameTimeout s = .next
      { s with
        link :=
          { s.link with
            parser := Parser.hunt, gap := none
            counters := { s.link.counters with timeouts := satSucc s.link.counters.timeouts } } }) ∧
  (∀ (s : State) (b : Byte), (∀ start, ¬ ByteNow start s) →
    exec (.goodByte b) s = .next s ∧ exec (.noiseByte b) s = .next s ∧ exec .stopBitError s = .next s ∧
      exec (.lengthError b) s = .next s ∧ exec (.receiveFrame b) s = .next s) ∧
  ∀ (s : State) (b : Byte), exec (.noiseByte 0xA5) s = .next s ∧ (b.toNat ≤ 240 → exec (.lengthError b) s = .next s)

/-- RECEIVE_FRAME: an unequal CRC discards the frame and counts in crc_errors. An equal one counts in frames_ok and hands the
frame on: RESTARTING discards it; else it is queued while fewer than 8 requests wait, else fills an empty refusal slot with a
BUSY reply, else is dropped and counted in busy_dropped. The parser is in HUNT in every case. On the restart tick, the restart
having been taken, the frame is the one whose CRC low byte was then awaited (log 14). -/
def Obligations.FrameIsJudgedAndTakenIn : Prop :=
  ∀ (s : State) (start : Tick) (low : Byte) (p : Parser), ByteNow start s → restartReady s = false →
    ((s.link.parser.state = .crcLo ∧ p = s.link.parser) ∨
      (s.link.parser.state ≠ .crcLo ∧ s.flags.oldParser = some p)) →
    let n := s.link.counters
    let hunting := { s.link with parser := Parser.hunt, gap := none, character := .stopping start }
    let seen := { s with flags := { s.flags with oldParser := none } }
    let good := { seen with link := { hunting with counters := { n with framesOk := satSucc n.framesOk } } }
    (p.crcHigh ++ low ≠ p.crc → exec (.receiveFrame low) s = .next
      { seen with link := { hunting with counters := { n with crcErrors := satSucc n.crcErrors } } }) ∧
    (p.crcHigh ++ low = p.crc →
      (s.engine.state = .restarting → exec (.receiveFrame low) s = .next good) ∧
      (s.engine.state = .running → s.engine.requests.length < 8 → exec (.receiveFrame low) s = .next
        { good with engine := { s.engine with requests := s.engine.requests ++ [⟨p.kind, p.tag, p.body, p.crc⟩] } }) ∧
      (s.engine.state = .running → 8 ≤ s.engine.requests.length → s.engine.refusal = none →
        exec (.receiveFrame low) s = .next
          { good with
            engine :=
              { s.engine with
                refusal := some
                  (if (ReqKind.ofCode p.kind).isSome then ⟨p.kind + 0x40, p.tag, [0x01], false⟩
                   else ⟨0x7F, p.tag, [0x01, p.kind], false⟩) } }) ∧
      (s.engine.state = .running → 8 ≤ s.engine.requests.length → s.engine.refusal ≠ none →
        exec (.receiveFrame low) s = .next
          { good with
            link :=
              { hunting with
                counters := { n with framesOk := satSucc n.framesOk, busyDropped := satSucc n.busyDropped } } }))

/-- The receiver (log 12): WAITING_HIGH becomes ARMED when RXD is high; a falling edge while ARMED begins a character where none is
under way or the last one's stop bit may have ended: its ten bit times, of a host 2% faster than the baud, end less than one tick
after this one. A false start at the middle of its start bit ends it. RXD is so sampled once a tick. Nothing else changes: a false
start leaves the gap timer and every counter. -/
def Obligations.ReceiverWatchesTheLine : Prop :=
  (∀ s : State, s.phase = .running →
    let seen := { s.flags with rxdSampled := true }
    (s.flags.rxdSampled = false → s.link.receiver = .waitingHigh →
      exec .receiverArmed s = .next { s with link := { s.link with receiver := .armed }, flags := seen }) ∧
    (s.flags.rxdSampled = true → exec .receiverArmed s = .next s ∧ exec .startBit s = .next s) ∧
    (s.flags.rxdSampled = false → s.link.receiver = .armed →
      ((s.link.character = .idle ∨
          ∃ start, s.link.character = .stopping start ∧ stopBitOver s.link.baud (s.tb.tick - start).toNat = true) →
        exec .startBit s = .next { s with link := { s.link with character := .reading s.tb.tick }, flags := seen }) ∧
      (∀ start, (s.link.character = .reading start ∨
          (s.link.character = .stopping start ∧ stopBitOver s.link.baud (s.tb.tick - start).toNat = false)) →
        exec .startBit s = .next s)) ∧
    ∀ start, s.link.receiver = .armed → s.link.character = .reading start →
      ((s.tb.tick - start).toNat = middleTick s.link.baud 0 →
        exec .falseStart s = .next { s with link := { s.link with character := .idle }, flags := seen }) ∧
      ((s.tb.tick - start).toNat ≠ middleTick s.link.baud 0 → exec .falseStart s = .next s)) ∧
  ∀ (baud : Baud) (n : Nat), NearestTick baud (2 * n + 1) (middleTick baud n) ∧
    (stopBitOver baud n = true ↔ 10 * 100000000 * 100 < 102 * (n + 1) * baud.rate)

/-- What the transmitter sends, the receive parser reads back: the bytes of a frame with any kind, tag and body of at most 240
bytes take the parser from HUNT to its CRC low byte with that kind, tag and body, and the last byte completes an equal CRC. -/
def Obligations.SentFrameIsReadBack : Prop :=
  ∀ (kind tag : Byte) (b : List Byte), b.length ≤ 240 →
    ∃ (front : List Byte) (low : Byte) (p : Parser), frameOf kind tag b = front ++ [low] ∧
      front.foldl (fun q x => q.bind fun q => q.advance x) (some Parser.hunt) = some p ∧
      p.state = .crcLo ∧ p.kind = kind ∧ p.tag = tag ∧ p.body = b ∧ p.length = b.length ∧ p.crcHigh ++ low = p.crc

/-- TRANSMIT_START gives the idle transmitter the first available source: the refusal slot, the oldest reply, the oldest event
with the events-lost counter taken and cleared, or a batch of the k oldest records, k the least of 16, the credit and the
occupancy, with the credit less k and the lost counter taken and cleared. Nothing else changes. -/
def Obligations.ArbiterGivesByPriority : Prop :=
  ∀ s : State, s.phase = .running → s.link.transmitter = .idle → restartReady s = false →
    let send := fun (kind tag : Byte) (b : List Byte) (restarts : Bool) =>
      { s.link with transmitter := .sending (frameOf kind tag b) s.tb.tick restarts }
    (∀ r, s.engine.refusal = some r → exec .transmitStart s = .next
      { s with link := send r.kind r.tag r.body r.restarts, engine := { s.engine with refusal := none } }) ∧
    (s.engine.refusal = none →
      (∀ r rest, s.arb.replies = r :: rest → exec .transmitStart s = .next
        { s with link := send r.kind r.tag r.body r.restarts, arb := { s.arb with replies := rest } }) ∧
      (s.arb.replies = [] →
        (∀ e rest, s.arb.events = e :: rest → exec .transmitStart s = .next
          { s with
            link := send e.kind 0 (be2 s.arb.lost ++ e.fields) false
            arb := { s.arb with events := rest, lost := 0 } }) ∧
        (s.arb.events = [] → 0 < s.cq.credit → s.cq.records ≠ [] →
          ∀ k, k = min 16 (min s.cq.credit s.cq.records.length) → exec .transmitStart s = .next
            { s with
              link := send 0x90 0
                (be1 k ++ be2 s.cq.lost ++ (s.cq.records.take k).flatMap CaptureRecord.bytes) false
              cq := ⟨s.cq.records.drop k, s.cq.credit - k, 0⟩ })))

/-- TXD (the tick of each bit edge is the model's reading, log 13): high while the transmitter is IDLE; while it sends, each byte's
start bit is low, its eight data bits follow least significant first and its stop bit is high, a bit time each, bit edges on the
nearest ticks. When the last stop bit has ended FRAME_SENT makes the transmitter IDLE, and at the end of the RESTART reply the
restart is due at that tick; the arbiter's choice of the tick then finds what is there. Nothing else changes. -/
def Obligations.FrameIsSentBitByBit : Prop :=
  (∀ s : State, s.phase = .running → s.link.transmitter = .idle → txdPin s = .high) ∧
  (∀ (s : State) (frame : List Byte) (start : Tick) (restarts : Bool) (i j : Nat) (b : Byte), s.phase = .running →
    s.link.transmitter = .sending frame start restarts → frame[i]? = some b → j < 10 →
    bitTick s.link.baud (10 * i + j) ≤ (s.tb.tick - start).toNat →
    (s.tb.tick - start).toNat < bitTick s.link.baud (10 * i + j + 1) →
    txdPin s =
      if j = 0 then .low else if j = 9 then .high else if b.getLsbD (j - 1) then .high else .low) ∧
  (∀ (baud : Baud) (n : Nat), NearestTick baud (2 * n) (bitTick baud n)) ∧
  ∀ (s : State) (frame : List Byte) (start : Tick) (restarts : Bool), s.phase = .running →
    s.link.transmitter = .sending frame start restarts →
    bitTick s.link.baud (10 * frame.length) ≤ (s.tb.tick - start).toNat →
    ∃ t, exec .frameSent s = .next t ∧
      t = { s with
        link := { s.link with transmitter := .idle }
        flags := { s.flags with restartDue := s.flags.restartDue || restarts, sendOwed := turnOf s } } ∧
      txdPin s = .high ∧ (restarts = true → restartReady t = true)

/-! ### The request engine (R153 to R163) -/

/-- RESTART: the engine is RESTARTING, every parked wait falls due with ABORTED after the due replies, and the RESTART reply, OK
alone, is formed and cached and waits for its place. DUE_REPLY_PLACE places as many due replies as the reply queue has free
places, in order, each with kind SYNC_WAIT plus 0x40 for a wait that SYNC_WAIT parked, and stores each in the reply cache as it is
placed; RESTART_REPLY_PLACE places the RESTART reply after the last of them, into a free place. Nothing else changes but the
record that a dispatch is owed to the tick, which ends where the due replies have taken the room for it (log 22). -/
def Obligations.OwedRepliesArePlaced : Prop :=
  (∀ (s : State) (r : Request), Fresh .restart r s → exec .restart s = .next
    { taken s with
      engine :=
        { s.engine with
          state := .restarting
          requests := s.engine.requests.tail
          waits := []
          due := s.engine.due ++ s.engine.waits.map fun w => ⟨w, .aborted, s.tb.frame⟩
          restartReply := some ⟨0x43, r.tag, [0x00], false⟩
          cache := remember r.key ⟨0x43, r.tag, [0x00], false⟩ s.engine.cache } }) ∧
  (∀ s : State, s.phase = .running →
    let reply := fun d : DueReply =>
      (⟨d.wait.key.kind + 0x40, d.wait.key.tag, d.status.code :: (frameBytes d.wait.target ++ frameBytes d.frame), false⟩ : Reply)
    let now := s.engine.due.take (4 - s.arb.replies.length)
    let replies := s.arb.replies ++ now.map reply
    ((s.engine.due = [] ∨ 4 ≤ s.arb.replies.length) → exec .dueReplyPlace s = .next s) ∧
    (s.engine.due ≠ [] → s.arb.replies.length < 4 → ∃ owed, exec .dueReplyPlace s = .next
      { s with
        engine :=
          { s.engine with
            due := s.engine.due.drop (4 - s.arb.replies.length)
            cache := now.foldl (fun cache d => remember d.wait.key (reply d) cache) s.engine.cache }
        arb := { s.arb with replies := replies }
        flags := { s.flags with dispatchOwed := owed } } ∧
      (owed = true ↔ s.flags.dispatchOwed = true ∧ replies.length < 4 ∧
        ∃ r rest, s.engine.requests = r :: rest ∧ (r.kind = 0x03 → replies = [])))) ∧
  ∀ (s : State) (r : Reply), s.phase = .running → s.engine.restartReply = some r → s.engine.due = [] →
    s.arb.replies.length < 4 → exec .restartReplyPlace s = .next
      { s with
        engine := { s.engine with restartReply := none }
        arb := { s.arb with replies := s.arb.replies ++ [{ r with restarts := true }] } }

/-- The conditions of a dispatch: the engine is RUNNING, the request queue holds a request, the reply queue has a free place, no
due reply waits, and a RESTART finds the reply queue empty; at most one request a tick, and only in the running device. The
request dispatched is the oldest. Three kinds, where they are no retry and have their length, are also held to a later moment of
the same tick (the model's reading of R9 and R96, log 15, log 27): LANE_STATUS until the tick's firings and pulse ends are taken,
FRAME_RENUMBER and TRACK_CONFIG where a timestamp of the tick already rests on the boundary or the pulse still to be taken. -/
def Obligations.DispatchConditions : Prop :=
  ∀ (s : State) (r : Request),
    let Reaches := fun k : ReqKind =>
      r.kind = k.code ∧ r.body.length = k.bodyLength ∧ cachedReply r s.engine = none ∧ absorbed r s.engine = false
    dispatchable s = some r ↔
    (s.phase = .running ∧ s.engine.state = .running ∧ s.flags.dispatched = false ∧ s.engine.due = [] ∧
      s.arb.replies.length < 4 ∧ (∃ rest, s.engine.requests = r :: rest) ∧ (r.kind = 0x03 → s.arb.replies = []) ∧
      (Reaches .laneStatus → lanesQuiet s = true) ∧
      (Reaches .frameRenumber → ¬ (s.flags.stamped = true ∧ endsNow s = true)) ∧
      (Reaches .trackConfig → ¬ (s.flags.settled = true ∧ s.flags.edgeNow = true)))

/-- A dispatched request that is no retry: a kind that is no request kind is answered with kind 0x7F, UNKNOWN_KIND and the kind
received; a body of the wrong length is answered with BAD_LENGTH alone. Neither has any other effect. -/
def Obligations.GenericRefusals : Prop :=
  (∀ (s : State) (r : Request), dispatchable s = some r → cachedReply r s.engine = none → absorbed r s.engine = false →
    ReqKind.ofCode r.kind = none → exec .unknownKind s = .next
      { taken s with
        engine :=
          { s.engine with
            requests := s.engine.requests.tail
            cache := remember r.key ⟨0x7F, r.tag, [0x02, r.kind], false⟩ s.engine.cache }
        arb := { s.arb with replies := s.arb.replies ++ [⟨0x7F, r.tag, [0x02, r.kind], false⟩] } }) ∧
  ∀ (s : State) (r : Request) (k : ReqKind), dispatchable s = some r → cachedReply r s.engine = none →
    absorbed r s.engine = false → r.kind = k.code → r.body.length ≠ k.bodyLength →
    exec k.command s = .next (replied r [0x03] s)

/-- A dispatched request with tag 1 to 255 that equals a cached one in tag, kind, body length and CRC is answered with the cached
reply, and one that equals a parked wait is absorbed; neither is carried out, and the cache keeps its entries and order. One that
equals neither, or has tag 0, is no retry. To store a reply the cache gives up the entry with the same tag, or else, at 8 entries,
the oldest, and takes the new one as its newest; a reply to tag 0 is not stored. -/
def Obligations.RetriesAreNotCarriedOut : Prop :=
  (∀ (s : State) (r : Request), dispatchable s = some r → r.tag ≠ 0 →
    (CacheTags s → ∀ e ∈ s.engine.cache, Matches r e.key → exec r.command s = .next
      { taken s with arb := { s.arb with replies := s.arb.replies ++ [e.reply] } }) ∧
    ((∀ e ∈ s.engine.cache, ¬ Matches r e.key) → ∀ w ∈ s.engine.waits, Matches r w.key →
      exec r.command s = .next (taken s))) ∧
  (∀ (r : Request) (e : Engine),
    (r.tag = 0 ∨ ((∀ c ∈ e.cache, ¬ Matches r c.key) ∧ ∀ w ∈ e.waits, ¬ Matches r w.key)) →
      cachedReply r e = none ∧ absorbed r e = false) ∧
  ∀ (key : RetryKey) (reply : Reply) (cache : List CacheEntry),
    let entry : CacheEntry := ⟨key, { reply with restarts := false }⟩
    (key.tag = 0 → remember key reply cache = cache) ∧
    (key.tag ≠ 0 → cache.length ≤ 8 →
      (∀ front back old, cache = front ++ old :: back → old.key.tag = key.tag →
        (∀ c ∈ front ++ back, c.key.tag ≠ key.tag) → remember key reply cache = front ++ back ++ [entry]) ∧
      ((∀ c ∈ cache, c.key.tag ≠ key.tag) →
        (cache.length < 8 → remember key reply cache = cache ++ [entry]) ∧
        (cache.length = 8 → remember key reply cache = cache.tail ++ [entry])))

/-- IDENTIFY, TIME_READ and CAPTURE_STATUS reply with OK and their items and change nothing else but the record that TIME_READ has
used the tick's offset. TIME_READ reads the timebase, the tracker and the schedule store as they stand; at a tick whose boundary
has been taken, each of the three either so or as it stood before the boundary, at the ended frame's last offset, which is also
read where the sampled pulse is still to end the frame (the model's reading of R17, log 24). -/
def Obligations.ReadsOnlyReply : Prop :=
  (∀ (s : State) (r : Request), Fresh .identify r s → exec .identify s = .next
    (replied r [0x00, 0x41, 0x60, 1, 16, 16, 0x01, 0x00, 0x02, 0x00, 8, 8, 4, 16] s)) ∧
  (∀ (s : State) (r : Request), Fresh .timeRead r s → ∃ v : ReadView, OneSideEach v (standing s) s.flags.readBefore ∧
    exec .timeRead s = .next
      (replied r
        ([0x00] ++ frameBytes v.frame ++ be4 v.offset ++ [s.tracker.mode.code, v.state.code, v.active.code]
          ++ (match v.commit with
              | .idle => [0, 0, 0, 0, 0]
              | .pending target => [1] ++ frameBytes target)
          ++ (match v.renumber with
              | none => [0, 0, 0, 0, 0]
              | some f => [1] ++ frameBytes f)) (offsetUsed s))) ∧
  (∀ (cause : Cause) (length fires : Nat) (s : State), s.flags.readBefore = none →
    (boundary cause length fires s).flags.readBefore =
      some ⟨s.tb.frame, length - 1, s.tb.renumber, s.tracker.state, s.store.active, s.store.commit⟩) ∧
  ∀ (s : State) (r : Request), Fresh .captureStatus r s → exec .captureStatus s = .next
    (replied r
      ([0x00] ++ be2 s.cq.records.length ++ be2 s.cq.credit ++ be2 s.cq.lost ++ be2 s.capture.seq.toNat) s)

/-- LINK_STATS and TRACK_STATUS report the values before any clearing; with the clear flag 1 the six counters, or the strays and
realignments, become 0; with 0 nothing changes; with any other value the reply is BAD_VALUE alone. -/
def Obligations.CountersAreReadAndCleared : Prop :=
  (∀ (s : State) (r : Request) (flag : Byte), Fresh .linkStats r s → r.body = [flag] →
    let c := s.link.counters
    let items := [0x00] ++ be2 c.framesOk ++ be2 c.crcErrors ++ be2 c.lengthErrors ++ be2 c.framingErrors ++ be2 c.timeouts
      ++ be2 c.busyDropped ++ [s.link.baud.code]
    (flag = 0 → exec .linkStats s = .next (replied r items s)) ∧
    (flag = 1 → exec .linkStats s = .next
      (replied r items { s with link := { s.link with counters := ⟨0, 0, 0, 0, 0, 0⟩ } })) ∧
    (flag ≠ 0 → flag ≠ 1 → exec .linkStats s = .next (replied r [0x04] s))) ∧
  ∀ (s : State) (r : Request) (flag : Byte), Fresh .trackStatus r s → r.body = [flag] →
    let t := s.tracker
    let items := [0x00, t.mode.code, t.state.code] ++ be2 t.misses ++ be2 t.holdover ++ be2 t.strays ++ be2 t.realignments
      ++ be2Signed t.lastCorrection
    (flag = 0 → exec .trackStatus s = .next (replied r items s)) ∧
    (flag = 1 → exec .trackStatus s = .next
      (replied r items { s with tracker := { t with strays := 0, realignments := 0 } })) ∧
    (flag ≠ 0 → flag ≠ 1 → exec .trackStatus s = .next (replied r [0x04] s))

/-- SYNC_WAIT: a target at distance 1 to 65,535 is parked without a reply while fewer than 4 waits are parked: the others keep their
order, those it stands behind are no further than it, its own frame's among them, and in an ordered list those it stands before
are further. Else the reply is WAIT_FULL; a distance of 0 or of 2^31 and above gives LATE, and one between gives BAD_VALUE. -/
def Obligations.SyncWaitParksOrRefuses : Prop :=
  ∀ (s : State) (r : Request) (target : FrameNo), Fresh .syncWait r s → target = BitVec.ofNat 32 (beNat r.body) →
    let d := (target - s.tb.frame).toNat
    let ahead := fun w : Wait => (w.target - s.tb.frame).toNat
    let items := frameBytes target ++ frameBytes s.tb.frame
    (1 ≤ d → d ≤ 65535 → s.engine.waits.length < 4 →
      ∃ front back : List Wait, s.engine.waits = front ++ back ∧ (∀ w ∈ front, ahead w ≤ d) ∧
        ((s.engine.waits.Pairwise fun v w => ahead v ≤ ahead w) → ∀ w ∈ back, d < ahead w) ∧
        exec .syncWait s = .next
          { taken s with
            engine :=
              { s.engine with
                requests := s.engine.requests.tail
                waits := front ++ ⟨⟨r.tag, r.kind, r.body.length, r.crc⟩, target⟩ :: back } }) ∧
    (1 ≤ d → d ≤ 65535 → 4 ≤ s.engine.waits.length → exec .syncWait s = .next (replied r ([0x10] ++ items) s)) ∧
    ((d = 0 ∨ 2147483648 ≤ d) → exec .syncWait s = .next (replied r ([0x0C] ++ items) s)) ∧
    (65536 ≤ d → d < 2147483648 → exec .syncWait s = .next (replied r ([0x04] ++ items) s))

/-- At every boundary a parked wait whose target is the new frame falls due with OK; where a renumber is applied there, one whose
target is then not 1 to 65,535 ahead falls due with RENUMBERED; these join the due replies in wait-list order. Every other wait
stays: in its place, or, after a renumber, in ascending order of distance from the new number, those of one frame as they were. -/
def Obligations.WaitsFallDueAtBoundaries : Prop :=
  ∀ (cause : Cause) (length fires : Nat) (s : State),
    let t := boundary cause length fires s
    let falls := fun w : Wait =>
      if w.target = nextFrame s then some (⟨w, .ok, nextFrame s⟩ : DueReply)
      else if s.tb.renumber ≠ none ∧ 65535 < (w.target - nextFrame s).toNat then some ⟨w, .renumbered, nextFrame s⟩
      else none
    let stay := s.engine.waits.filter fun w => (falls w).isNone
    t.engine.due = s.engine.due ++ s.engine.waits.filterMap falls ∧
    (s.tb.renumber = none → t.engine.waits = stay) ∧
    (s.tb.renumber ≠ none →
      (t.engine.waits.Pairwise fun v w => (v.target - nextFrame s).toNat ≤ (w.target - nextFrame s).toNat) ∧
      ∀ target : FrameNo, (t.engine.waits.filter fun w => decide (w.target = target)) =
        stay.filter fun w => decide (w.target = target))

/-! ### Requests of the timebase, the tracker and the schedule store -/

/-- TRACK_CONFIG: where every field is in range the four parameters take their values together; a change of mode gives ACQUIRE or
FREE with no candidate and its TRACKER_STATE event; the frame window, the flag, the counts and the running frame stay. A field
out of range is BAD_VALUE, and nothing changes. A pulse held for this tick's boundary is taken first (R36, log 9), and before that
boundary the event carries the frame that ends or the one that begins (R37, log 7). -/
def Obligations.TrackConfigSetsTheTracker : Prop :=
  ∀ (s s1 : State) (r : Request) (m acq miss : Byte) (w h : BitVec 16), Fresh .trackConfig r s →
    r.body = [m] ++ be2 w.toNat ++ [acq, miss] ++ be2 h.toNat →
    s1 =
      (if s.flags.pulseHeld = .held then
        raised .tracker (if s.tracker.state = .holdover then [.trackerState .holdover .locked .pulse (nextFrame s)] else [])
          { s with
            tracker :=
              { s.tracker with
                misses := 0, holdover := 0, lastCorrection := 0
                state := if s.tracker.state = .holdover then .locked else s.tracker.state }
            flags := { s.flags with pulseHeld := .applied } }
      else s) →
    let ok := m.toNat ≤ 1 ∧ w.toNat ≤ 1023 ∧ 2 ≤ acq.toNat ∧ acq.toNat ≤ 15 ∧ 1 ≤ miss.toNat ∧ miss.toNat ≤ 15 ∧ 1 ≤ h.toNat
    let set := { s1.tracker with
      w := w.toNat, acqCount := acq.toNat, missLimit := miss.toNat, holdoverLimit := h.toNat }
    (¬ ok → exec .trackConfig s = .next (replied r [0x04, s1.tracker.mode.code, s1.tracker.state.code] s1)) ∧
    (ok → m = s.tracker.mode.code → exec .trackConfig s = .next
      (replied r [0x00, s1.tracker.mode.code, s1.tracker.state.code] { s1 with tracker := set })) ∧
    ∃ frame, (frame = s.tb.frame ∨ (s.flags.boundaryDue = true ∧ frame = nextFrame s)) ∧
      (ok → m = 1 → s.tracker.mode = .localMode → exec .trackConfig s = .next
        (replied r [0x00, 1, 1]
          (raised .tracker [.trackerState s1.tracker.state .acquire .config frame]
            { s1 with tracker := { set with mode := .externalMode, state := .acquire, candidate := none } }))) ∧
      (ok → m = 0 → s.tracker.mode = .externalMode → exec .trackConfig s = .next
        (replied r [0x00, 0, 0]
          (raised .tracker [.trackerState s1.tracker.state .free .config frame]
            { s1 with tracker := { set with mode := .localMode, state := .free, candidate := none } })))

/-- ENTRY_ADD of an entry written as R172 lays it out: FROZEN while a commit is pending; else BAD_VALUE where a field is out of
range for the shadow; else DUPLICATE where its key is held; else BANK_FULL at 256 entries; else it is inserted behind the
entries whose keys come before its own, and the reply carries that index. Nothing but the shadow's list changes. -/
def Obligations.EntryAddInsertsAtItsKey : Prop :=
  (∀ (length : Nat) (e : Entry), e.valid length = true ↔
    e.offset < length ∧ (e.action = .pulse → ∃ w, e.width = some w ∧ 1 ≤ w ∧ w ≤ 65535) ∧
      (e.action ≠ .pulse → e.width = none) ∧ e.period ∈ [1, 2, 4, 8, 16, 32, 64] ∧ e.phase < e.period ∧
      (∀ t, e.tag = some t → e.notify = true ∧ t ≤ 65535)) ∧
  ∀ (s : State) (r : Request), Fresh .entryAdd r s →
    let bank := s.store.shadow
    let refused := fun (status : Byte) =>
      replied r ([status, s.store.shadowId.code] ++ be2 bank.entries.length ++ be3 bank.length ++ [0, 0]) s
    (∀ target, s.store.commit = .pending target → exec .entryAdd s = .next (refused 0x08)) ∧
    (s.store.commit = .idle →
      (readEntry r.body = none → exec .entryAdd s = .next (refused 0x04)) ∧
      ∀ e, readEntry r.body = some e →
        (e.valid bank.length = false → exec .entryAdd s = .next (refused 0x04)) ∧
        (e.valid bank.length = true →
          ((∃ f ∈ bank.entries, f.offset = e.offset ∧ f.lane = e.lane) → exec .entryAdd s = .next (refused 0x05)) ∧
          ((∀ f ∈ bank.entries, ¬ (f.offset = e.offset ∧ f.lane = e.lane)) →
            (256 ≤ bank.entries.length → exec .entryAdd s = .next (refused 0x06)) ∧
            (bank.entries.length < 256 →
              ∀ i, i = (bank.entries.filter fun f =>
                  decide (f.offset < e.offset ∨ (f.offset = e.offset ∧ f.lane.val < e.lane.val))).length →
                exec .entryAdd s = .next
                  (replied r
                    ([0x00, s.store.shadowId.code] ++ be2 (bank.entries.take i ++ e :: bank.entries.drop i).length
                      ++ be3 bank.length ++ [1] ++ be1 i)
                    { s with
                      store := s.store.setShadow
                        { bank with entries := bank.entries.take i ++ e :: bank.entries.drop i } })))))

/-- ENTRY_REMOVE: FROZEN while a commit is pending; else BAD_VALUE for a lane above 15 or an offset at or above the shadow's
length; else NOT_FOUND where no entry has the key; else, the list being in its order, that entry is removed, and the reply
carries the index it held. -/
def Obligations.EntryRemoveTakesTheKeyOut : Prop :=
  ∀ (s : State) (r : Request) (o2 o1 o0 laneByte : Byte), Fresh .entryRemove r s → r.body = [o2, o1, o0, laneByte] →
    let bank := s.store.shadow
    let offset := (o2.toNat * 256 + o1.toNat) * 256 + o0.toNat
    let refused := fun (status : Byte) =>
      replied r ([status, s.store.shadowId.code] ++ be2 bank.entries.length ++ be3 bank.length ++ [0, 0]) s
    (∀ target, s.store.commit = .pending target → exec .entryRemove s = .next (refused 0x08)) ∧
    (s.store.commit = .idle →
      ((16 ≤ laneByte.toNat ∨ bank.length ≤ offset) → exec .entryRemove s = .next (refused 0x04)) ∧
      ∀ lane : Lane, lane.val = laneByte.toNat → offset < bank.length →
        ((∀ f ∈ bank.entries, ¬ (f.offset = offset ∧ f.lane = lane)) → exec .entryRemove s = .next (refused 0x07)) ∧
        (bank.ordered → ∀ front back e, bank.entries = front ++ e :: back → e.offset = offset → e.lane = lane →
          exec .entryRemove s = .next
            (replied r
              ([0x00, s.store.shadowId.code] ++ be2 (front ++ back).length ++ be3 bank.length ++ [1] ++ be1 front.length)
              { s with store := s.store.setShadow { bank with entries := front ++ back } })))

/-- BANK_CLEAR empties the shadow's list and keeps its length; BANK_COPY makes it a copy of the active bank; BANK_LENGTH gives it
a length of 10,000 to 16,000,000 above every entry's offset, else BAD_VALUE. Each is FROZEN while a commit is pending, and
changes nothing but the shadow. -/
def Obligations.BankEditsReachTheShadow : Prop :=
  ∀ (s : State) (r : Request),
    let items := fun (st : Store) => [st.shadowId.code] ++ be2 st.shadow.entries.length ++ be3 st.shadow.length
    let edited := fun (b : Bank) =>
      replied r ([0x00] ++ items (s.store.setShadow b)) { s with store := s.store.setShadow b }
    let refused := fun (status : Byte) => replied r ([status] ++ items s.store) s
    (∀ b : Bank, (s.store.setShadow b).shadow = b ∧ (s.store.setShadow b).activeBank = s.store.activeBank ∧
      (s.store.setShadow b).active = s.store.active ∧ (s.store.setShadow b).commit = s.store.commit) ∧
    (∀ target, s.store.commit = .pending target →
      (Fresh .bankClear r s → exec .bankClear s = .next (refused 0x08)) ∧
      (Fresh .bankCopy r s → exec .bankCopy s = .next (refused 0x08)) ∧
      (Fresh .bankLength r s → exec .bankLength s = .next (refused 0x08))) ∧
    (s.store.commit = .idle →
      (Fresh .bankClear r s → exec .bankClear s = .next (edited { s.store.shadow with entries := [] })) ∧
      (Fresh .bankCopy r s → exec .bankCopy s = .next (edited s.store.activeBank)) ∧
      (∀ l2 l1 l0 : Byte, Fresh .bankLength r s → r.body = [l2, l1, l0] →
        ∀ length, length = (l2.toNat * 256 + l1.toNat) * 256 + l0.toNat →
          ((length < 10000 ∨ 16000000 < length ∨ ∃ e ∈ s.store.shadow.entries, length ≤ e.offset) →
            exec .bankLength s = .next (refused 0x04)) ∧
          (10000 ≤ length → length ≤ 16000000 → (∀ e ∈ s.store.shadow.entries, e.offset < length) →
            exec .bankLength s = .next (edited { s.store.shadow with length := length }))))

/-- BANK_READ: BAD_VALUE alone for a bank id that names none or a first index above the named bank's count; else the bank's id,
role, length, count, the first index and the entries from it, at most 16, whether or not a commit is pending. -/
def Obligations.BankReadReturnsAPage : Prop :=
  ∀ (s : State) (r : Request) (idByte i1 i0 : Byte), Fresh .bankRead r s → r.body = [idByte, i1, i0] →
    let first := i1.toNat * 256 + i0.toNat
    (2 ≤ idByte.toNat → exec .bankRead s = .next (replied r [0x04] s)) ∧
    ∀ id : BankId, idByte = id.code →
      let bank := s.store.bank id
      (bank.entries.length < first → exec .bankRead s = .next (replied r [0x04] s)) ∧
      (first ≤ bank.entries.length → exec .bankRead s = .next
        (replied r
          ([0x00, idByte, if id = s.store.active then 0 else 1] ++ be3 bank.length ++ be2 bank.entries.length ++ be2 first
            ++ be1 (min 16 (bank.entries.length - first)) ++ ((bank.entries.drop first).take 16).flatMap Entry.bytes) s))

/-- An entry in range for a frame length of at most 16,000,000, written in its 13 bytes and read again, is the same entry, with
each optional field present or absent as it was. -/
def Obligations.EntryReadsBackAsWritten : Prop :=
  ∀ (e : Entry) (length : Nat), length ≤ 16000000 → e.valid length = true → e.bytes.length = 13 ∧ readEntry e.bytes = some e

/-- COMMIT: COMMIT_PENDING with the target already pending (the bank absent: log 19), RENUMBER_PENDING, BAD_VALUE for a target kind
of neither, and LATE or BAD_VALUE by target distance, in this order; else PENDING with the frame after the current one for NEXT
or F for NUMBERED. COMMIT_CANCEL makes a pending commit IDLE and replies with its target, or replies NOT_PENDING. FRAME_RENUMBER is
refused with COMMIT_PENDING while a commit is pending; else renumber pending takes the value, replacing one already pending, and
the reply carries the frame at dispatch in both cases. None changes anything else. -/
def Obligations.CommitAndRenumberPend : Prop :=
  (∀ (s : State) (r : Request) (kind f3 f2 f1 f0 : Byte), Fresh .commit r s → r.body = [kind, f3, f2, f1, f0] →
    let d := (f3 ++ f2 ++ f1 ++ f0 - s.tb.frame).toNat
    let refused := fun (status : Byte) => replied r ([status, 0, 0, 0, 0, 0] ++ frameBytes s.tb.frame ++ [0xFF]) s
    let accepted := fun (target : FrameNo) =>
      replied r ([0x00, 1] ++ frameBytes target ++ frameBytes s.tb.frame ++ [s.store.shadowId.code])
        { s with store := { s.store with commit := .pending target } }
    (∀ target, s.store.commit = .pending target → exec .commit s = .next
      (replied r ([0x09, 1] ++ frameBytes target ++ frameBytes s.tb.frame ++ [0xFF]) s)) ∧
    (s.store.commit = .idle →
      (s.tb.renumber ≠ none → exec .commit s = .next (refused 0x0A)) ∧
      (s.tb.renumber = none →
        (2 ≤ kind.toNat → exec .commit s = .next (refused 0x04)) ∧
        (kind = 0 → exec .commit s = .next (accepted (s.tb.frame + 1))) ∧
        (kind = 1 →
          ((d = 0 ∨ 2147483648 ≤ d) → exec .commit s = .next (refused 0x0C)) ∧
          (65536 ≤ d → d < 2147483648 → exec .commit s = .next (refused 0x04)) ∧
          (1 ≤ d → d ≤ 65535 → exec .commit s = .next (accepted (f3 ++ f2 ++ f1 ++ f0))))))) ∧
  (∀ (s : State) (r : Request), Fresh .commitCancel r s →
    (∀ target, s.store.commit = .pending target → exec .commitCancel s = .next
      (replied r ([0x00, s.store.active.code, 1] ++ frameBytes target) { s with store := { s.store with commit := .idle } })) ∧
    (s.store.commit = .idle →
      exec .commitCancel s = .next (replied r [0x0B, s.store.active.code, 0, 0, 0, 0, 0] s))) ∧
  ∀ (s : State) (r : Request) (f3 f2 f1 f0 : Byte), Fresh .frameRenumber r s → r.body = [f3, f2, f1, f0] →
    (∀ target, s.store.commit = .pending target →
      exec .frameRenumber s = .next (replied r ([0x09] ++ frameBytes s.tb.frame) s)) ∧
    (s.store.commit = .idle → exec .frameRenumber s = .next
      (replied r ([0x00] ++ frameBytes s.tb.frame) { s with tb := { s.tb with renumber := some (f3 ++ f2 ++ f1 ++ f0) } }))

/-! ### Requests of the lanes, the safe control and the capture side -/

/-- LANE_CONFIG: BAD_VALUE alone for a lane above 15; BAD_VALUE with the lane items for another field out of range; SAFE_ACTIVE
where the latch is SET and the safe level would change; else the mode, the safe level and, with an initial level 0 or 1, the
scheduled level, the pending end then being absent. Nothing but that lane changes, and its hold level stays. The pin level in the
reply is the one at the moment of dispatch (the model's choice, log 25). -/
def Obligations.LaneConfigSetsTheLane : Prop :=
  ∀ (s : State) (r : Request) (laneByte mode safe initial : Byte), Fresh .laneConfig r s →
    r.body = [laneByte, mode, safe, initial] →
    (16 ≤ laneByte.toNat → exec .laneConfig s = .next (replied r [0x04] s)) ∧
    ∀ lane : Lane, lane.val = laneByte.toNat →
      let l := s.lanes.get lane
      let items := fun (t : State) =>
        [laneByte, (t.lanes.get lane).mode.code, levelCode (t.lanes.get lane).level, (outPin t lane).code]
      let set := fun (l' : OutLane) => { s with lanes := s.lanes.set lane l' }
      let ok := mode.toNat ≤ 1 ∧ safe.toNat ≤ 3 ∧ initial.toNat ≤ 2
      (¬ ok → exec .laneConfig s = .next (replied r ([0x04] ++ items s) s)) ∧
      (ok → s.safe.latch ≠ none → safe ≠ l.safe.code → exec .laneConfig s = .next (replied r ([0x0E] ++ items s) s)) ∧
      (ok → ∀ (m : LaneMode) (v : SafeLevel), m.code = mode → v.code = safe → (s.safe.latch = none ∨ v = l.safe) →
        (initial = 2 → exec .laneConfig s = .next
          (replied r ([0x00] ++ items (set { l with mode := m, safe := v })) (set { l with mode := m, safe := v }))) ∧
        (∀ level : Level, levelCode level = initial → exec .laneConfig s = .next
          (replied r ([0x00] ++ items (set ⟨m, level, none, v, l.hold⟩)) (set ⟨m, level, none, v, l.hold⟩))))

/-- LANE_FORCE forces a lane from any mode, and LANE_RELEASE returns a forced lane to SCHEDULED and refuses another with
WRONG_MODE; BAD_VALUE alone for a lane above 15, with the lane items for a level of neither. Only the mode of that lane
changes, so a request that leaves the mode leaves the state. The pin level in the reply is the one at the moment of dispatch (the
model's choice, log 25). -/
def Obligations.ForceAndReleaseSetTheMode : Prop :=
  ∀ (s : State) (r : Request) (laneByte : Byte) (lane : Lane),
    let l := s.lanes.get lane
    let set := fun (m : LaneMode) => { s with lanes := s.lanes.set lane { l with mode := m } }
    let items := fun (t : State) =>
      [laneByte, (t.lanes.get lane).mode.code, levelCode (t.lanes.get lane).level, (outPin t lane).code]
    (∀ level : Byte, Fresh .laneForce r s → r.body = [laneByte, level] →
      (16 ≤ laneByte.toNat → exec .laneForce s = .next (replied r [0x04] s)) ∧
      (lane.val = laneByte.toNat →
        (level = 1 → exec .laneForce s = .next (replied r ([0x00] ++ items (set .forcedHigh)) (set .forcedHigh))) ∧
        (level = 0 → exec .laneForce s = .next (replied r ([0x00] ++ items (set .forcedLow)) (set .forcedLow))) ∧
        (2 ≤ level.toNat → exec .laneForce s = .next (replied r ([0x04] ++ items s) s)))) ∧
    (Fresh .laneRelease r s → r.body = [laneByte] →
      (16 ≤ laneByte.toNat → exec .laneRelease s = .next (replied r [0x04] s)) ∧
      (lane.val = laneByte.toNat →
        (l.mode = .forcedHigh ∨ l.mode = .forcedLow → exec .laneRelease s = .next
          (replied r ([0x00] ++ items (set .scheduled)) (set .scheduled))) ∧
        (l.mode = .off ∨ l.mode = .scheduled → exec .laneRelease s = .next (replied r ([0x0D] ++ items s) s))))

/-- LANE_STATUS, once every firing and pulse end of the tick has been taken: BAD_VALUE alone for a lane above 15, else the lane's
record, the ticks its pulse has left, the safe latch, the SAFE_N qualified state and the pin level. No state changes but the
record that this tick's offset has been used (log 15). -/
def Obligations.LaneStatusReportsTheLane : Prop :=
  ∀ (s : State) (r : Request) (laneByte : Byte), Fresh .laneStatus r s → r.body = [laneByte] →
    (16 ≤ laneByte.toNat → exec .laneStatus s = .next (replied r [0x04] s)) ∧
    ∀ lane : Lane, lane.val = laneByte.toNat →
      let l := s.lanes.get lane
      exec .laneStatus s = .next
        (replied r
          ([0x00, laneByte, l.mode.code, levelCode l.level]
            ++ (match l.pulseEnd with
                | none => [0, 0, 0]
                | some e => [1] ++ be2 (e - s.tb.tick).toNat)
            ++ [l.safe.code, l.hold.code, latchCode s.safe.latch, safeNCode s.safe.qualified, (outPin s lane).code])
          { s with flags := { s.flags with settled := true } })

/-- INPUT_CONFIG: BAD_VALUE alone for a lane above 15; BAD_VALUE with the lane's items where another field is out of range; else
the four fields together, no candidate, the level sampled on the pin as the qualified level, and the latch record emptied
where the delivery changes. Nothing but that lane, and the record that it has been sampled at this tick, changes. -/
def Obligations.InputConfigRestartsTheLane : Prop :=
  ∀ (s : State) (r : Request) (laneByte edge deglitch marker s2 s1 s0 e2 e1 e0 delivery : Byte), Fresh .inputConfig r s →
    r.body = [laneByte, edge, deglitch, marker, s2, s1, s0, e2, e1, e0, delivery] →
    let first := (s2.toNat * 256 + s1.toNat) * 256 + s0.toNat
    let last := (e2.toNat * 256 + e1.toNat) * 256 + e0.toNat
    let ok := edge.toNat ≤ 3 ∧ delivery.toNat ≤ 1 ∧ (marker = 0 ∨ (marker = 1 ∧ first ≠ last))
    (16 ≤ laneByte.toNat → exec .inputConfig s = .next (replied r [0x04] s)) ∧
    ∀ lane : Lane, lane.val = laneByte.toNat →
      let l := s.capture.lanes.get lane
      (¬ ok → exec .inputConfig s = .next (replied r ([0x04] ++ inLaneItems lane l) s)) ∧
      (ok → ∀ (ed : EdgeSetting) (de : Delivery), ed.code = edge → de.code = delivery →
        let sampled := if s.flags.sampled.getLsbD lane.val then (l.candidate.map LevelCandidate.level).getD l.qualified
          else s.pins.inputs.get lane
        let l' : InLane :=
          ⟨ed, deglitch.toNat, if marker = 0 then none else some ⟨first, last⟩, de, sampled, none,
            if de = l.delivery then l.latch else { l.latch with present := false, overwritten := false }⟩
        exec .inputConfig s = .next
          (replied r ([0x00] ++ inLaneItems lane l')
            { s with
              capture := { s.capture with lanes := s.capture.lanes.set lane l' }
              flags := { s.flags with sampled := s.flags.sampled ||| BitVec.twoPow 16 lane.val } }))

/-- LATCH_READ: BAD_VALUE alone for a lane above 15, WRONG_MODE for a QUEUE lane, EMPTY for a latch record that holds no edge; else
the held edge, and the record is emptied. Nothing else changes. -/
def Obligations.LatchReadEmptiesTheRecord : Prop :=
  ∀ (s : State) (r : Request) (laneByte : Byte), Fresh .latchRead r s → r.body = [laneByte] →
    (16 ≤ laneByte.toNat → exec .latchRead s = .next (replied r [0x04] s)) ∧
    ∀ lane : Lane, lane.val = laneByte.toNat →
      let l := s.capture.lanes.get lane
      (l.delivery = .queue → exec .latchRead s = .next
        (replied r [0x0D, laneByte, 0, 0xFF, 0, 0, 0, 0, 0, 0, 0, 0, 0xFF, 0xFF] s)) ∧
      (l.delivery = .latch → l.latch.present = false → exec .latchRead s = .next
        (replied r [0x13, laneByte, 1, 0xFF, 0, 0, 0, 0, 0, 0, 0, 0, 0xFF, 0] s)) ∧
      (l.delivery = .latch → l.latch.present = true → exec .latchRead s = .next
        (replied r
          ([0x00, laneByte, 1, l.latch.edge.code] ++ frameBytes l.latch.frame ++ be4 l.latch.offset
            ++ [l.latch.quality.code, flagCode l.latch.overwritten])
          { s with
            capture :=
              { s.capture with
                lanes := s.capture.lanes.set lane
                  { l with latch := { l.latch with present := false, overwritten := false } } } }))

/-- CAPTURE_GRANT adds n to the credit, stopping at 65,535; CAPTURE_FLUSH removes every record and reports their number. Neither
changes the lost counter, the sequence counter or anything else, but for the record that the arbiter's turn of the tick, where it
had the capture source alone, is owed no more after a flush (the model's reading of R128, log 22). -/
def Obligations.GrantAndFlushTheCaptureQueue : Prop :=
  (∀ (s : State) (r : Request) (n1 n0 : Byte), Fresh .captureGrant r s → r.body = [n1, n0] →
    ∀ credit, credit = min 65535 (s.cq.credit + (n1.toNat * 256 + n0.toNat)) →
      exec .captureGrant s = .next (replied r ([0x00] ++ be2 credit) { s with cq := { s.cq with credit := credit } })) ∧
  ∀ (s : State) (r : Request), Fresh .captureFlush r s →
    exec .captureFlush s = .next
      (replied r ([0x00] ++ be2 s.cq.records.length)
        { s with
          cq := { s.cq with records := [] }
          flags :=
            { s.flags with sendOwed := if s.flags.sendOwed = .batch then .nothing else s.flags.sendOwed } })

/-! ### Laws that every step keeps -/

/-- Every step keeps the tracker in one of its five pairs of mode and state, and keeps a commit and a renumber from both being
pending. -/
def Obligations.StepKeepsPairAndPendings : Prop :=
  (∀ s t : State, TrackerPairLegal s → step s = .next t → TrackerPairLegal t) ∧
    ∀ s t : State, CommitOrRenumber s → step s = .next t → CommitOrRenumber t

/-- Every step keeps every list within its capacity, the tags of the reply cache distinct and not 0, and the saturating counters
within 16 bits. -/
def Obligations.StepKeepsCapacities : Prop :=
  ∀ s t : State, QueuesWithinCapacity s ∧ CacheTags s ∧ CountersWithinRange s → step s = .next t →
    QueuesWithinCapacity t ∧ CacheTags t ∧ CountersWithinRange t

/-- Every step keeps the law of the frame and its schedule: both banks ordered and in range, the windows in range, the offset
below P, the frame run on the active bank's length and list, and no entry of the running frame passed by. -/
def Obligations.StepKeepsFrameLaw : Prop :=
  ∀ s t : State, FrameLaw s → step s = .next t → FrameLaw t

/-- The machine right after reset keeps every one of these laws, waits on no command, and has READY with cause POWER as its one
event. -/
def Obligations.ResetKeepsEveryLaw : Prop :=
  TrackerPairLegal State.reset ∧ CommitOrRenumber State.reset ∧ QueuesWithinCapacity State.reset ∧ CacheTags State.reset ∧
    CountersWithinRange State.reset ∧ FrameLaw State.reset ∧ State.reset.pending = [] ∧
    State.reset.arb.events = [.ready .power]
end

