-- ==== Sys2Proof/Laws/Exec.lean ====
section
/-! SUPPORT. Every command, and so every step, answers a next state: no command stops the device. -/

namespace Sys2Proof.Machine

theorem exec_next (c : Instr) (s : State) : ∃ t, exec c s = .next t := by
  cases c <;> exact ⟨_, rfl⟩

theorem ownStep_next (s : State) : ∃ t, ownStep s = .next t := by
  unfold ownStep
  split
  · dsimp only
    split
    · rename_i a _
      cases a with
      | event c => exact exec_next ..
      | enter src => exact ⟨_, rfl⟩
    · exact ⟨_, rfl⟩
  · exact ⟨_, rfl⟩

end Sys2Proof.Machine
end

