-- ==== Sys2Proof/Laws/Lanes.lean ====
section
/-! SUPPORT. Reading a collection of sixteen after each of its operations, and the saturating counter. -/

namespace Sys2Proof.Lanes

variable {α β γ : Type}

theorem ext_get {v w : Lanes α} (h : ∀ i, v.get i = w.get i) : v = w := by
  obtain ⟨vs, hv⟩ := v
  obtain ⟨ws, hw⟩ := w
  have : vs = ws := by
    apply List.ext_getElem (by omega)
    intro n h1 _
    exact h ⟨n, by omega⟩
  subst this
  rfl

@[simp] theorem get_set_self (v : Lanes α) (i : Lane) (x : α) : (v.set i x).get i = x := by
  simp [get, set]

theorem get_set_of_ne (v : Lanes α) {i j : Lane} (x : α) (h : i ≠ j) : (v.set i x).get j = v.get j := by
  have : i.val ≠ j.val := fun e => h (Fin.ext e)
  simp [get, set, this]

@[simp] theorem get_fill (x : α) (i : Lane) : (Lanes.fill x).get i = x :=
  List.getElem_replicate ..

@[simp] theorem get_map (f : α → β) (v : Lanes α) (i : Lane) : (v.map f).get i = f (v.get i) := by
  simp [get, map]

@[simp] theorem get_zip (f : α → β → γ) (v : Lanes α) (w : Lanes β) (i : Lane) :
    (v.zip f w).get i = f (v.get i) (w.get i) := by
  simp [get, zip]

@[simp] theorem set_get_self (v : Lanes α) (i : Lane) : v.set i (v.get i) = v := by
  apply ext_get
  intro j
  by_cases h : i = j
  · subst h; simp
  · rw [get_set_of_ne _ _ h]

end Sys2Proof.Lanes

namespace Sys2Proof

theorem mem_allLanes (i : Lane) : i ∈ allLanes := by revert i; decide

theorem satSucc_le {n : Nat} (h : n ≤ 65535) : satSucc n ≤ 65535 := by
  unfold satSucc
  split <;> omega

end Sys2Proof
end

