-- ==== Sys2Proof/Laws/State.lean ====
section
/-! SUPPORT. What replacing one block of the state leaves of each block: one lemma per block and replacement. -/

namespace Sys2Proof.Machine

variable (s : State)

@[simp] theorem State.setPhase_phase (x : Phase) : (s.setPhase x).phase = x := rfl
@[simp] theorem State.setPhase_pins (x : Phase) : (s.setPhase x).pins = s.pins := rfl
@[simp] theorem State.setPhase_tb (x : Phase) : (s.setPhase x).tb = s.tb := rfl
@[simp] theorem State.setPhase_tracker (x : Phase) : (s.setPhase x).tracker = s.tracker := rfl
@[simp] theorem State.setPhase_store (x : Phase) : (s.setPhase x).store = s.store := rfl
@[simp] theorem State.setPhase_exec (x : Phase) : (s.setPhase x).exec = s.exec := rfl
@[simp] theorem State.setPhase_lanes (x : Phase) : (s.setPhase x).lanes = s.lanes := rfl
@[simp] theorem State.setPhase_safe (x : Phase) : (s.setPhase x).safe = s.safe := rfl
@[simp] theorem State.setPhase_capture (x : Phase) : (s.setPhase x).capture = s.capture := rfl
@[simp] theorem State.setPhase_cq (x : Phase) : (s.setPhase x).cq = s.cq := rfl
@[simp] theorem State.setPhase_link (x : Phase) : (s.setPhase x).link = s.link := rfl
@[simp] theorem State.setPhase_engine (x : Phase) : (s.setPhase x).engine = s.engine := rfl
@[simp] theorem State.setPhase_arb (x : Phase) : (s.setPhase x).arb = s.arb := rfl
@[simp] theorem State.setPhase_flags (x : Phase) : (s.setPhase x).flags = s.flags := rfl
@[simp] theorem State.setPhase_choices (x : Phase) : (s.setPhase x).choices = s.choices := rfl
@[simp] theorem State.setPhase_pending (x : Phase) : (s.setPhase x).pending = s.pending := rfl

@[simp] theorem State.setPins_phase (x : Pins) : (s.setPins x).phase = s.phase := rfl
@[simp] theorem State.setPins_pins (x : Pins) : (s.setPins x).pins = x := rfl
@[simp] theorem State.setPins_tb (x : Pins) : (s.setPins x).tb = s.tb := rfl
@[simp] theorem State.setPins_tracker (x : Pins) : (s.setPins x).tracker = s.tracker := rfl
@[simp] theorem State.setPins_store (x : Pins) : (s.setPins x).store = s.store := rfl
@[simp] theorem State.setPins_exec (x : Pins) : (s.setPins x).exec = s.exec := rfl
@[simp] theorem State.setPins_lanes (x : Pins) : (s.setPins x).lanes = s.lanes := rfl
@[simp] theorem State.setPins_safe (x : Pins) : (s.setPins x).safe = s.safe := rfl
@[simp] theorem State.setPins_capture (x : Pins) : (s.setPins x).capture = s.capture := rfl
@[simp] theorem State.setPins_cq (x : Pins) : (s.setPins x).cq = s.cq := rfl
@[simp] theorem State.setPins_link (x : Pins) : (s.setPins x).link = s.link := rfl
@[simp] theorem State.setPins_engine (x : Pins) : (s.setPins x).engine = s.engine := rfl
@[simp] theorem State.setPins_arb (x : Pins) : (s.setPins x).arb = s.arb := rfl
@[simp] theorem State.setPins_flags (x : Pins) : (s.setPins x).flags = s.flags := rfl
@[simp] theorem State.setPins_choices (x : Pins) : (s.setPins x).choices = s.choices := rfl
@[simp] theorem State.setPins_pending (x : Pins) : (s.setPins x).pending = s.pending := rfl

@[simp] theorem State.setTb_phase (x : Timebase) : (s.setTb x).phase = s.phase := rfl
@[simp] theorem State.setTb_pins (x : Timebase) : (s.setTb x).pins = s.pins := rfl
@[simp] theorem State.setTb_tb (x : Timebase) : (s.setTb x).tb = x := rfl
@[simp] theorem State.setTb_tracker (x : Timebase) : (s.setTb x).tracker = s.tracker := rfl
@[simp] theorem State.setTb_store (x : Timebase) : (s.setTb x).store = s.store := rfl
@[simp] theorem State.setTb_exec (x : Timebase) : (s.setTb x).exec = s.exec := rfl
@[simp] theorem State.setTb_lanes (x : Timebase) : (s.setTb x).lanes = s.lanes := rfl
@[simp] theorem State.setTb_safe (x : Timebase) : (s.setTb x).safe = s.safe := rfl
@[simp] theorem State.setTb_capture (x : Timebase) : (s.setTb x).capture = s.capture := rfl
@[simp] theorem State.setTb_cq (x : Timebase) : (s.setTb x).cq = s.cq := rfl
@[simp] theorem State.setTb_link (x : Timebase) : (s.setTb x).link = s.link := rfl
@[simp] theorem State.setTb_engine (x : Timebase) : (s.setTb x).engine = s.engine := rfl
@[simp] theorem State.setTb_arb (x : Timebase) : (s.setTb x).arb = s.arb := rfl
@[simp] theorem State.setTb_flags (x : Timebase) : (s.setTb x).flags = s.flags := rfl
@[simp] theorem State.setTb_choices (x : Timebase) : (s.setTb x).choices = s.choices := rfl
@[simp] theorem State.setTb_pending (x : Timebase) : (s.setTb x).pending = s.pending := rfl

@[simp] theorem State.setTracker_phase (x : Tracker) : (s.setTracker x).phase = s.phase := rfl
@[simp] theorem State.setTracker_pins (x : Tracker) : (s.setTracker x).pins = s.pins := rfl
@[simp] theorem State.setTracker_tb (x : Tracker) : (s.setTracker x).tb = s.tb := rfl
@[simp] theorem State.setTracker_tracker (x : Tracker) : (s.setTracker x).tracker = x := rfl
@[simp] theorem State.setTracker_store (x : Tracker) : (s.setTracker x).store = s.store := rfl
@[simp] theorem State.setTracker_exec (x : Tracker) : (s.setTracker x).exec = s.exec := rfl
@[simp] theorem State.setTracker_lanes (x : Tracker) : (s.setTracker x).lanes = s.lanes := rfl
@[simp] theorem State.setTracker_safe (x : Tracker) : (s.setTracker x).safe = s.safe := rfl
@[simp] theorem State.setTracker_capture (x : Tracker) : (s.setTracker x).capture = s.capture := rfl
@[simp] theorem State.setTracker_cq (x : Tracker) : (s.setTracker x).cq = s.cq := rfl
@[simp] theorem State.setTracker_link (x : Tracker) : (s.setTracker x).link = s.link := rfl
@[simp] theorem State.setTracker_engine (x : Tracker) : (s.setTracker x).engine = s.engine := rfl
@[simp] theorem State.setTracker_arb (x : Tracker) : (s.setTracker x).arb = s.arb := rfl
@[simp] theorem State.setTracker_flags (x : Tracker) : (s.setTracker x).flags = s.flags := rfl
@[simp] theorem State.setTracker_choices (x : Tracker) : (s.setTracker x).choices = s.choices := rfl
@[simp] theorem State.setTracker_pending (x : Tracker) : (s.setTracker x).pending = s.pending := rfl

@[simp] theorem State.setStore_phase (x : Store) : (s.setStore x).phase = s.phase := rfl
@[simp] theorem State.setStore_pins (x : Store) : (s.setStore x).pins = s.pins := rfl
@[simp] theorem State.setStore_tb (x : Store) : (s.setStore x).tb = s.tb := rfl
@[simp] theorem State.setStore_tracker (x : Store) : (s.setStore x).tracker = s.tracker := rfl
@[simp] theorem State.setStore_store (x : Store) : (s.setStore x).store = x := rfl
@[simp] theorem State.setStore_exec (x : Store) : (s.setStore x).exec = s.exec := rfl
@[simp] theorem State.setStore_lanes (x : Store) : (s.setStore x).lanes = s.lanes := rfl
@[simp] theorem State.setStore_safe (x : Store) : (s.setStore x).safe = s.safe := rfl
@[simp] theorem State.setStore_capture (x : Store) : (s.setStore x).capture = s.capture := rfl
@[simp] theorem State.setStore_cq (x : Store) : (s.setStore x).cq = s.cq := rfl
@[simp] theorem State.setStore_link (x : Store) : (s.setStore x).link = s.link := rfl
@[simp] theorem State.setStore_engine (x : Store) : (s.setStore x).engine = s.engine := rfl
@[simp] theorem State.setStore_arb (x : Store) : (s.setStore x).arb = s.arb := rfl
@[simp] theorem State.setStore_flags (x : Store) : (s.setStore x).flags = s.flags := rfl
@[simp] theorem State.setStore_choices (x : Store) : (s.setStore x).choices = s.choices := rfl
@[simp] theorem State.setStore_pending (x : Store) : (s.setStore x).pending = s.pending := rfl

@[simp] theorem State.setExec_phase (x : Executor) : (s.setExec x).phase = s.phase := rfl
@[simp] theorem State.setExec_pins (x : Executor) : (s.setExec x).pins = s.pins := rfl
@[simp] theorem State.setExec_tb (x : Executor) : (s.setExec x).tb = s.tb := rfl
@[simp] theorem State.setExec_tracker (x : Executor) : (s.setExec x).tracker = s.tracker := rfl
@[simp] theorem State.setExec_store (x : Executor) : (s.setExec x).store = s.store := rfl
@[simp] theorem State.setExec_exec (x : Executor) : (s.setExec x).exec = x := rfl
@[simp] theorem State.setExec_lanes (x : Executor) : (s.setExec x).lanes = s.lanes := rfl
@[simp] theorem State.setExec_safe (x : Executor) : (s.setExec x).safe = s.safe := rfl
@[simp] theorem State.setExec_capture (x : Executor) : (s.setExec x).capture = s.capture := rfl
@[simp] theorem State.setExec_cq (x : Executor) : (s.setExec x).cq = s.cq := rfl
@[simp] theorem State.setExec_link (x : Executor) : (s.setExec x).link = s.link := rfl
@[simp] theorem State.setExec_engine (x : Executor) : (s.setExec x).engine = s.engine := rfl
@[simp] theorem State.setExec_arb (x : Executor) : (s.setExec x).arb = s.arb := rfl
@[simp] theorem State.setExec_flags (x : Executor) : (s.setExec x).flags = s.flags := rfl
@[simp] theorem State.setExec_choices (x : Executor) : (s.setExec x).choices = s.choices := rfl
@[simp] theorem State.setExec_pending (x : Executor) : (s.setExec x).pending = s.pending := rfl

@[simp] theorem State.setLanes_phase (x : Lanes OutLane) : (s.setLanes x).phase = s.phase := rfl
@[simp] theorem State.setLanes_pins (x : Lanes OutLane) : (s.setLanes x).pins = s.pins := rfl
@[simp] theorem State.setLanes_tb (x : Lanes OutLane) : (s.setLanes x).tb = s.tb := rfl
@[simp] theorem State.setLanes_tracker (x : Lanes OutLane) : (s.setLanes x).tracker = s.tracker := rfl
@[simp] theorem State.setLanes_store (x : Lanes OutLane) : (s.setLanes x).store = s.store := rfl
@[simp] theorem State.setLanes_exec (x : Lanes OutLane) : (s.setLanes x).exec = s.exec := rfl
@[simp] theorem State.setLanes_lanes (x : Lanes OutLane) : (s.setLanes x).lanes = x := rfl
@[simp] theorem State.setLanes_safe (x : Lanes OutLane) : (s.setLanes x).safe = s.safe := rfl
@[simp] theorem State.setLanes_capture (x : Lanes OutLane) : (s.setLanes x).capture = s.capture := rfl
@[simp] theorem State.setLanes_cq (x : Lanes OutLane) : (s.setLanes x).cq = s.cq := rfl
@[simp] theorem State.setLanes_link (x : Lanes OutLane) : (s.setLanes x).link = s.link := rfl
@[simp] theorem State.setLanes_engine (x : Lanes OutLane) : (s.setLanes x).engine = s.engine := rfl
@[simp] theorem State.setLanes_arb (x : Lanes OutLane) : (s.setLanes x).arb = s.arb := rfl
@[simp] theorem State.setLanes_flags (x : Lanes OutLane) : (s.setLanes x).flags = s.flags := rfl
@[simp] theorem State.setLanes_choices (x : Lanes OutLane) : (s.setLanes x).choices = s.choices := rfl
@[simp] theorem State.setLanes_pending (x : Lanes OutLane) : (s.setLanes x).pending = s.pending := rfl

@[simp] theorem State.setSafe_phase (x : Safe) : (s.setSafe x).phase = s.phase := rfl
@[simp] theorem State.setSafe_pins (x : Safe) : (s.setSafe x).pins = s.pins := rfl
@[simp] theorem State.setSafe_tb (x : Safe) : (s.setSafe x).tb = s.tb := rfl
@[simp] theorem State.setSafe_tracker (x : Safe) : (s.setSafe x).tracker = s.tracker := rfl
@[simp] theorem State.setSafe_store (x : Safe) : (s.setSafe x).store = s.store := rfl
@[simp] theorem State.setSafe_exec (x : Safe) : (s.setSafe x).exec = s.exec := rfl
@[simp] theorem State.setSafe_lanes (x : Safe) : (s.setSafe x).lanes = s.lanes := rfl
@[simp] theorem State.setSafe_safe (x : Safe) : (s.setSafe x).safe = x := rfl
@[simp] theorem State.setSafe_capture (x : Safe) : (s.setSafe x).capture = s.capture := rfl
@[simp] theorem State.setSafe_cq (x : Safe) : (s.setSafe x).cq = s.cq := rfl
@[simp] theorem State.setSafe_link (x : Safe) : (s.setSafe x).link = s.link := rfl
@[simp] theorem State.setSafe_engine (x : Safe) : (s.setSafe x).engine = s.engine := rfl
@[simp] theorem State.setSafe_arb (x : Safe) : (s.setSafe x).arb = s.arb := rfl
@[simp] theorem State.setSafe_flags (x : Safe) : (s.setSafe x).flags = s.flags := rfl
@[simp] theorem State.setSafe_choices (x : Safe) : (s.setSafe x).choices = s.choices := rfl
@[simp] theorem State.setSafe_pending (x : Safe) : (s.setSafe x).pending = s.pending := rfl

@[simp] theorem State.setCapture_phase (x : Capture) : (s.setCapture x).phase = s.phase := rfl
@[simp] theorem State.setCapture_pins (x : Capture) : (s.setCapture x).pins = s.pins := rfl
@[simp] theorem State.setCapture_tb (x : Capture) : (s.setCapture x).tb = s.tb := rfl
@[simp] theorem State.setCapture_tracker (x : Capture) : (s.setCapture x).tracker = s.tracker := rfl
@[simp] theorem State.setCapture_store (x : Capture) : (s.setCapture x).store = s.store := rfl
@[simp] theorem State.setCapture_exec (x : Capture) : (s.setCapture x).exec = s.exec := rfl
@[simp] theorem State.setCapture_lanes (x : Capture) : (s.setCapture x).lanes = s.lanes := rfl
@[simp] theorem State.setCapture_safe (x : Capture) : (s.setCapture x).safe = s.safe := rfl
@[simp] theorem State.setCapture_capture (x : Capture) : (s.setCapture x).capture = x := rfl
@[simp] theorem State.setCapture_cq (x : Capture) : (s.setCapture x).cq = s.cq := rfl
@[simp] theorem State.setCapture_link (x : Capture) : (s.setCapture x).link = s.link := rfl
@[simp] theorem State.setCapture_engine (x : Capture) : (s.setCapture x).engine = s.engine := rfl
@[simp] theorem State.setCapture_arb (x : Capture) : (s.setCapture x).arb = s.arb := rfl
@[simp] theorem State.setCapture_flags (x : Capture) : (s.setCapture x).flags = s.flags := rfl
@[simp] theorem State.setCapture_choices (x : Capture) : (s.setCapture x).choices = s.choices := rfl
@[simp] theorem State.setCapture_pending (x : Capture) : (s.setCapture x).pending = s.pending := rfl

@[simp] theorem State.setCq_phase (x : CaptureQueue) : (s.setCq x).phase = s.phase := rfl
@[simp] theorem State.setCq_pins (x : CaptureQueue) : (s.setCq x).pins = s.pins := rfl
@[simp] theorem State.setCq_tb (x : CaptureQueue) : (s.setCq x).tb = s.tb := rfl
@[simp] theorem State.setCq_tracker (x : CaptureQueue) : (s.setCq x).tracker = s.tracker := rfl
@[simp] theorem State.setCq_store (x : CaptureQueue) : (s.setCq x).store = s.store := rfl
@[simp] theorem State.setCq_exec (x : CaptureQueue) : (s.setCq x).exec = s.exec := rfl
@[simp] theorem State.setCq_lanes (x : CaptureQueue) : (s.setCq x).lanes = s.lanes := rfl
@[simp] theorem State.setCq_safe (x : CaptureQueue) : (s.setCq x).safe = s.safe := rfl
@[simp] theorem State.setCq_capture (x : CaptureQueue) : (s.setCq x).capture = s.capture := rfl
@[simp] theorem State.setCq_cq (x : CaptureQueue) : (s.setCq x).cq = x := rfl
@[simp] theorem State.setCq_link (x : CaptureQueue) : (s.setCq x).link = s.link := rfl
@[simp] theorem State.setCq_engine (x : CaptureQueue) : (s.setCq x).engine = s.engine := rfl
@[simp] theorem State.setCq_arb (x : CaptureQueue) : (s.setCq x).arb = s.arb := rfl
@[simp] theorem State.setCq_flags (x : CaptureQueue) : (s.setCq x).flags = s.flags := rfl
@[simp] theorem State.setCq_choices (x : CaptureQueue) : (s.setCq x).choices = s.choices := rfl
@[simp] theorem State.setCq_pending (x : CaptureQueue) : (s.setCq x).pending = s.pending := rfl

@[simp] theorem State.setLink_phase (x : Link) : (s.setLink x).phase = s.phase := rfl
@[simp] theorem State.setLink_pins (x : Link) : (s.setLink x).pins = s.pins := rfl
@[simp] theorem State.setLink_tb (x : Link) : (s.setLink x).tb = s.tb := rfl
@[simp] theorem State.setLink_tracker (x : Link) : (s.setLink x).tracker = s.tracker := rfl
@[simp] theorem State.setLink_store (x : Link) : (s.setLink x).store = s.store := rfl
@[simp] theorem State.setLink_exec (x : Link) : (s.setLink x).exec = s.exec := rfl
@[simp] theorem State.setLink_lanes (x : Link) : (s.setLink x).lanes = s.lanes := rfl
@[simp] theorem State.setLink_safe (x : Link) : (s.setLink x).safe = s.safe := rfl
@[simp] theorem State.setLink_capture (x : Link) : (s.setLink x).capture = s.capture := rfl
@[simp] theorem State.setLink_cq (x : Link) : (s.setLink x).cq = s.cq := rfl
@[simp] theorem State.setLink_link (x : Link) : (s.setLink x).link = x := rfl
@[simp] theorem State.setLink_engine (x : Link) : (s.setLink x).engine = s.engine := rfl
@[simp] theorem State.setLink_arb (x : Link) : (s.setLink x).arb = s.arb := rfl
@[simp] theorem State.setLink_flags (x : Link) : (s.setLink x).flags = s.flags := rfl
@[simp] theorem State.setLink_choices (x : Link) : (s.setLink x).choices = s.choices := rfl
@[simp] theorem State.setLink_pending (x : Link) : (s.setLink x).pending = s.pending := rfl

@[simp] theorem State.setEngine_phase (x : Engine) : (s.setEngine x).phase = s.phase := rfl
@[simp] theorem State.setEngine_pins (x : Engine) : (s.setEngine x).pins = s.pins := rfl
@[simp] theorem State.setEngine_tb (x : Engine) : (s.setEngine x).tb = s.tb := rfl
@[simp] theorem State.setEngine_tracker (x : Engine) : (s.setEngine x).tracker = s.tracker := rfl
@[simp] theorem State.setEngine_store (x : Engine) : (s.setEngine x).store = s.store := rfl
@[simp] theorem State.setEngine_exec (x : Engine) : (s.setEngine x).exec = s.exec := rfl
@[simp] theorem State.setEngine_lanes (x : Engine) : (s.setEngine x).lanes = s.lanes := rfl
@[simp] theorem State.setEngine_safe (x : Engine) : (s.setEngine x).safe = s.safe := rfl
@[simp] theorem State.setEngine_capture (x : Engine) : (s.setEngine x).capture = s.capture := rfl
@[simp] theorem State.setEngine_cq (x : Engine) : (s.setEngine x).cq = s.cq := rfl
@[simp] theorem State.setEngine_link (x : Engine) : (s.setEngine x).link = s.link := rfl
@[simp] theorem State.setEngine_engine (x : Engine) : (s.setEngine x).engine = x := rfl
@[simp] theorem State.setEngine_arb (x : Engine) : (s.setEngine x).arb = s.arb := rfl
@[simp] theorem State.setEngine_flags (x : Engine) : (s.setEngine x).flags = s.flags := rfl
@[simp] theorem State.setEngine_choices (x : Engine) : (s.setEngine x).choices = s.choices := rfl
@[simp] theorem State.setEngine_pending (x : Engine) : (s.setEngine x).pending = s.pending := rfl

@[simp] theorem State.setArb_phase (x : Arbiter) : (s.setArb x).phase = s.phase := rfl
@[simp] theorem State.setArb_pins (x : Arbiter) : (s.setArb x).pins = s.pins := rfl
@[simp] theorem State.setArb_tb (x : Arbiter) : (s.setArb x).tb = s.tb := rfl
@[simp] theorem State.setArb_tracker (x : Arbiter) : (s.setArb x).tracker = s.tracker := rfl
@[simp] theorem State.setArb_store (x : Arbiter) : (s.setArb x).store = s.store := rfl
@[simp] theorem State.setArb_exec (x : Arbiter) : (s.setArb x).exec = s.exec := rfl
@[simp] theorem State.setArb_lanes (x : Arbiter) : (s.setArb x).lanes = s.lanes := rfl
@[simp] theorem State.setArb_safe (x : Arbiter) : (s.setArb x).safe = s.safe := rfl
@[simp] theorem State.setArb_capture (x : Arbiter) : (s.setArb x).capture = s.capture := rfl
@[simp] theorem State.setArb_cq (x : Arbiter) : (s.setArb x).cq = s.cq := rfl
@[simp] theorem State.setArb_link (x : Arbiter) : (s.setArb x).link = s.link := rfl
@[simp] theorem State.setArb_engine (x : Arbiter) : (s.setArb x).engine = s.engine := rfl
@[simp] theorem State.setArb_arb (x : Arbiter) : (s.setArb x).arb = x := rfl
@[simp] theorem State.setArb_flags (x : Arbiter) : (s.setArb x).flags = s.flags := rfl
@[simp] theorem State.setArb_choices (x : Arbiter) : (s.setArb x).choices = s.choices := rfl
@[simp] theorem State.setArb_pending (x : Arbiter) : (s.setArb x).pending = s.pending := rfl

@[simp] theorem State.setFlags_phase (x : TickFlags) : (s.setFlags x).phase = s.phase := rfl
@[simp] theorem State.setFlags_pins (x : TickFlags) : (s.setFlags x).pins = s.pins := rfl
@[simp] theorem State.setFlags_tb (x : TickFlags) : (s.setFlags x).tb = s.tb := rfl
@[simp] theorem State.setFlags_tracker (x : TickFlags) : (s.setFlags x).tracker = s.tracker := rfl
@[simp] theorem State.setFlags_store (x : TickFlags) : (s.setFlags x).store = s.store := rfl
@[simp] theorem State.setFlags_exec (x : TickFlags) : (s.setFlags x).exec = s.exec := rfl
@[simp] theorem State.setFlags_lanes (x : TickFlags) : (s.setFlags x).lanes = s.lanes := rfl
@[simp] theorem State.setFlags_safe (x : TickFlags) : (s.setFlags x).safe = s.safe := rfl
@[simp] theorem State.setFlags_capture (x : TickFlags) : (s.setFlags x).capture = s.capture := rfl
@[simp] theorem State.setFlags_cq (x : TickFlags) : (s.setFlags x).cq = s.cq := rfl
@[simp] theorem State.setFlags_link (x : TickFlags) : (s.setFlags x).link = s.link := rfl
@[simp] theorem State.setFlags_engine (x : TickFlags) : (s.setFlags x).engine = s.engine := rfl
@[simp] theorem State.setFlags_arb (x : TickFlags) : (s.setFlags x).arb = s.arb := rfl
@[simp] theorem State.setFlags_flags (x : TickFlags) : (s.setFlags x).flags = x := rfl
@[simp] theorem State.setFlags_choices (x : TickFlags) : (s.setFlags x).choices = s.choices := rfl
@[simp] theorem State.setFlags_pending (x : TickFlags) : (s.setFlags x).pending = s.pending := rfl

end Sys2Proof.Machine
end

