-- ==== Sys2Proof/Laws/Ops.lean ====
section
/-! SUPPORT. What each shared operation of Machine/Ops.lean can do, said once. -/

namespace Sys2Proof.Machine

/-! ### Raising events (R165) -/

theorem Arbiter.raise_of_room (a : Arbiter) (e : Event) (h : a.events.length < 16) :
    a.raise e = { a with events := a.events ++ [e] } := by
  simp [Arbiter.raise, Config.eventPlaces, h]

theorem Arbiter.raise_of_full (a : Arbiter) (e : Event) (h : 16 ≤ a.events.length) :
    a.raise e = { a with lost := satSucc a.lost } := by
  simp [Arbiter.raise, Config.eventPlaces, Nat.not_lt.mpr h]

@[simp] theorem Arbiter.raise_replies (a : Arbiter) (e : Event) : (a.raise e).replies = a.replies := by
  unfold Arbiter.raise
  split <;> rfl

theorem Arbiter.raise_bounds (a : Arbiter) (e : Event) (h : a.events.length ≤ 16 ∧ a.lost ≤ 65535) :
    (a.raise e).events.length ≤ 16 ∧ (a.raise e).lost ≤ 65535 := by
  by_cases hr : a.events.length < 16
  · rw [Arbiter.raise_of_room a e hr]
    simpa using ⟨hr, h.2⟩
  · rw [Arbiter.raise_of_full a e (by omega)]
    exact ⟨h.1, satSucc_le h.2⟩

section raise

variable (src : Source) (es : List Event) (s : State)

@[simp] theorem raise_phase : (raise src es s).phase = s.phase := rfl
@[simp] theorem raise_pins : (raise src es s).pins = s.pins := rfl
@[simp] theorem raise_tb : (raise src es s).tb = s.tb := rfl
@[simp] theorem raise_tracker : (raise src es s).tracker = s.tracker := rfl
@[simp] theorem raise_store : (raise src es s).store = s.store := rfl
@[simp] theorem raise_exec : (raise src es s).exec = s.exec := rfl
@[simp] theorem raise_lanes : (raise src es s).lanes = s.lanes := rfl
@[simp] theorem raise_safe : (raise src es s).safe = s.safe := rfl
@[simp] theorem raise_capture : (raise src es s).capture = s.capture := rfl
@[simp] theorem raise_cq : (raise src es s).cq = s.cq := rfl
@[simp] theorem raise_link : (raise src es s).link = s.link := rfl
@[simp] theorem raise_engine : (raise src es s).engine = s.engine := rfl
@[simp] theorem raise_arb : (raise src es s).arb = s.arb := rfl
@[simp] theorem raise_choices : (raise src es s).choices = s.choices := rfl
@[simp] theorem raise_pending : (raise src es s).pending = s.pending := rfl
@[simp] theorem raise_flags :
    (raise src es s).flags = { s.flags with handed := s.flags.handed.put (s.flags.handed.of src ++ es) src } := rfl

/-- Raising no event changes nothing. -/
@[simp] theorem raise_nil : raise src [] s = s := by
  cases src <;> simp [raise, State.setFlags, Handed.of, Handed.put]

end raise

@[simp] theorem Handed.of_put (h : Handed) (es : List Event) (src src' : Source) :
    (h.put es src).of src' = if src' = src then es else h.of src' := by
  cases src <;> cases src' <;> rfl

/-- An event that enters leaves the arbiter's replies as they were, and its queue and counter within their bounds (R165). -/
theorem enter_arb (src : Source) (s : State) :
    (enter src s).arb = s.arb ∨ ∃ e, (s.flags.handed.of src).head? = some e ∧ (enter src s).arb = s.arb.raise e := by
  unfold enter
  split
  · exact .inl rfl
  · rename_i e rest h
    exact .inr ⟨e, by rw [h]; rfl, rfl⟩

/-- What an event that enters leaves as it was (R165). -/
theorem enter_frame (src : Source) (s : State) :
    (enter src s).phase = s.phase ∧ (enter src s).pins = s.pins ∧ (enter src s).tb = s.tb ∧
      (enter src s).tracker = s.tracker ∧ (enter src s).store = s.store ∧ (enter src s).exec = s.exec ∧
      (enter src s).lanes = s.lanes ∧ (enter src s).safe = s.safe ∧ (enter src s).capture = s.capture ∧
      (enter src s).cq = s.cq ∧ (enter src s).link = s.link ∧ (enter src s).engine = s.engine ∧
      (enter src s).choices = s.choices ∧ (enter src s).pending = s.pending := by
  unfold enter
  split <;> exact ⟨rfl, rfl, rfl, rfl, rfl, rfl, rfl, rfl, rfl, rfl, rfl, rfl, rfl, rfl⟩

theorem enter_arb_bounds (src : Source) (s : State) (h : s.arb.events.length ≤ 16 ∧ s.arb.lost ≤ 65535) :
    (enter src s).arb.events.length ≤ 16 ∧ (enter src s).arb.lost ≤ 65535 := by
  rcases enter_arb src s with e | ⟨e, _, h'⟩
  · rw [e]; exact h
  · rw [h']; exact s.arb.raise_bounds e h

theorem enter_arb_replies (src : Source) (s : State) : (enter src s).arb.replies = s.arb.replies := by
  rcases enter_arb src s with e | ⟨e, _, h'⟩
  · rw [e]
  · rw [h', Arbiter.raise_replies]

section useOffset

variable (s : State)

@[simp] theorem useOffset_phase : (useOffset s).phase = s.phase := rfl
@[simp] theorem useOffset_pins : (useOffset s).pins = s.pins := rfl
@[simp] theorem useOffset_tb : (useOffset s).tb = s.tb := rfl
@[simp] theorem useOffset_tracker : (useOffset s).tracker = s.tracker := rfl
@[simp] theorem useOffset_store : (useOffset s).store = s.store := rfl
@[simp] theorem useOffset_exec : (useOffset s).exec = s.exec := rfl
@[simp] theorem useOffset_lanes : (useOffset s).lanes = s.lanes := rfl
@[simp] theorem useOffset_safe : (useOffset s).safe = s.safe := rfl
@[simp] theorem useOffset_capture : (useOffset s).capture = s.capture := rfl
@[simp] theorem useOffset_cq : (useOffset s).cq = s.cq := rfl
@[simp] theorem useOffset_link : (useOffset s).link = s.link := rfl
@[simp] theorem useOffset_engine : (useOffset s).engine = s.engine := rfl
@[simp] theorem useOffset_arb : (useOffset s).arb = s.arb := rfl
@[simp] theorem useOffset_choices : (useOffset s).choices = s.choices := rfl
@[simp] theorem useOffset_pending : (useOffset s).pending = s.pending := rfl

end useOffset

section makeFirings

variable (fs : List Firing) (s : State)

@[simp] theorem makeFirings_phase : (makeFirings fs s).phase = s.phase := rfl
@[simp] theorem makeFirings_pins : (makeFirings fs s).pins = s.pins := rfl
@[simp] theorem makeFirings_tb : (makeFirings fs s).tb = s.tb := rfl
@[simp] theorem makeFirings_tracker : (makeFirings fs s).tracker = s.tracker := rfl
@[simp] theorem makeFirings_store : (makeFirings fs s).store = s.store := rfl
@[simp] theorem makeFirings_exec : (makeFirings fs s).exec = s.exec := rfl
@[simp] theorem makeFirings_lanes : (makeFirings fs s).lanes = fireAll s.tb.tick fs s.lanes := rfl
@[simp] theorem makeFirings_safe : (makeFirings fs s).safe = s.safe := rfl
@[simp] theorem makeFirings_capture : (makeFirings fs s).capture = s.capture := rfl
@[simp] theorem makeFirings_cq : (makeFirings fs s).cq = s.cq := rfl
@[simp] theorem makeFirings_link : (makeFirings fs s).link = s.link := rfl
@[simp] theorem makeFirings_engine : (makeFirings fs s).engine = s.engine := rfl
@[simp] theorem makeFirings_arb : (makeFirings fs s).arb = s.arb := rfl
@[simp] theorem makeFirings_choices : (makeFirings fs s).choices = s.choices := rfl
@[simp] theorem makeFirings_pending : (makeFirings fs s).pending = s.pending := rfl

end makeFirings

/-! ### The reply cache (R156) -/

theorem remember_length_le {cache : List CacheEntry} (key : RetryKey) (reply : Reply) (h : cache.length ≤ 8) :
    (remember key reply cache).length ≤ 8 := by
  unfold remember
  have hf := List.length_filter_le (fun c : CacheEntry => decide (c.key.tag ≠ key.tag)) cache
  simp only
  split
  · exact h
  · rw [List.length_append, List.length_singleton]
    split
    · rename_i hlt
      exact hlt
    · rw [List.length_tail]
      omega

/-- No two entries of a cache have one tag, and none has tag 0 (R156). -/
abbrev CacheTagsDistinct (cache : List CacheEntry) : Prop :=
  cache.Pairwise (fun a b => a.key.tag ≠ b.key.tag) ∧ ∀ c ∈ cache, c.key.tag ≠ 0

theorem remember_tags_distinct {cache : List CacheEntry} (key : RetryKey) (reply : Reply) (h : CacheTagsDistinct cache) :
    CacheTagsDistinct (remember key reply cache) := by
  unfold remember
  simp only
  split
  · exact h
  · rename_i htag
    have hsub : ∀ l : List CacheEntry, l.Sublist (cache.filter fun c => decide (c.key.tag ≠ key.tag)) →
        CacheTagsDistinct (l ++ [⟨key, { reply with restarts := false }⟩]) := by
      intro l hl
      have hmem : ∀ c ∈ l, c ∈ cache ∧ c.key.tag ≠ key.tag := by
        intro c hc
        simpa using hl.subset hc
      refine ⟨?_, ?_⟩
      · rw [List.pairwise_append]
        refine ⟨(h.1.sublist List.filter_sublist).sublist hl, by simp, ?_⟩
        intro a ha b hb
        rw [List.mem_singleton] at hb
        subst hb
        exact (hmem a ha).2
      · intro c hc
        rw [List.mem_append, List.mem_singleton] at hc
        rcases hc with hc | rfl
        · exact h.2 c (hmem c hc).1
        · exact htag
    split
    · exact hsub _ (List.Sublist.refl _)
    · exact hsub _ (List.tail_sublist _)

/-! ### Dispatch (R153, R154) -/

theorem roomFor_iff {s : State} {r : Request} :
    roomFor s r = true ↔ s.arb.replies.length < 4 ∧ (r.kind = ReqKind.restart.code → s.arb.replies = []) := by
  rw [roomFor, Bool.and_eq_true, decide_eq_true_iff]
  exact and_congr Iff.rfl (by simp [imp_iff_not_or])

/-- The conditions of a dispatch, with at most one a tick (R153). -/
theorem openRequest_iff {s : State} {r : Request} :
    openRequest s = some r ↔
      s.phase = .running ∧ s.engine.state = .running ∧ s.flags.dispatched = false ∧ s.engine.due = [] ∧
        s.arb.replies.length < 4 ∧ (∃ rest, s.engine.requests = r :: rest) ∧
        (r.kind = ReqKind.restart.code → s.arb.replies = []) := by
  simp [openRequest, running, Option.filter_eq_some_iff, List.head?_eq_some_iff, roomFor_iff, and_assoc]
  tauto

theorem openRequest_some {s : State} {r : Request} (h : openRequest s = some r) :
    s.phase = .running ∧ s.engine.state = .running ∧ s.flags.dispatched = false ∧ s.engine.due = [] ∧
      s.arb.replies.length < 4 ∧ (∃ rest, s.engine.requests = r :: rest) ∧
      (r.kind = ReqKind.restart.code → s.arb.replies = []) :=
  openRequest_iff.mp h

/-- What a dispatch rests on (R153), and that it is not held to a later moment of the tick. -/
theorem dispatchable_some {s : State} {r : Request} (h : dispatchable s = some r) :
    openRequest s = some r ∧ heldThisTick s r = false := by
  unfold dispatchable at h
  rw [Option.filter_eq_some_iff] at h
  exact ⟨h.1, by simpa using h.2⟩

/-- A dispatch of one kind does nothing, replays a cached reply, absorbs, answers BAD_LENGTH, or carries the request out. -/
theorem serveWith_elim {motive : State → Prop} (k : ReqKind) (own : Request → State → State) (s : State)
    (same : motive s)
    (cached : ∀ r reply, dispatchable s = some r → cachedReply r s.engine = some reply →
      motive (placeReply reply (takeRequest s)))
    (absorbed : ∀ r, dispatchable s = some r → motive (takeRequest s))
    (short : ∀ r, dispatchable s = some r → motive (answer r (body .badLength []) (takeRequest s)))
    (carried : ∀ r, dispatchable s = some r → r.kind = k.code → r.body.length = k.bodyLength → motive (own r (takeRequest s))) :
    motive (serveWith k own s) := by
  unfold serveWith
  split
  · exact same
  · rename_i r hr
    split
    · rename_i hk
      simp only [retryOutcome]
      split
      · rename_i s2 hs2
        split at hs2
        · rename_i reply hc
          simp only [Option.some.injEq] at hs2
          subst hs2
          exact cached r reply hr hc
        · split at hs2
          · simp only [Option.some.injEq] at hs2
            subst hs2
            exact absorbed r hr
          · simp at hs2
      · split
        · rename_i hl
          exact carried r hr hk hl
        · exact short r hr
    · exact same

/-- A request that is dispatched, is no retry and has its body length is carried out by its block. -/
theorem serveWith_carried {k : ReqKind} {own : Request → State → State} {s : State} {r : Request}
    (hd : dispatchable s = some r) (hk : r.kind = k.code) (hl : r.body.length = k.bodyLength)
    (hc : cachedReply r s.engine = none) (ha : absorbed r s.engine = false) :
    serveWith k own s = own r (takeRequest s) := by
  have hc' : cachedReply r (takeRequest s).engine = none := hc
  have ha' : absorbed r (takeRequest s).engine = false := ha
  simp [serveWith, hd, hk, hl, retryOutcome, hc', ha']

theorem serve_carried {k : ReqKind} {own : List Byte → State → State × List Byte} {s : State} {r : Request}
    (hd : dispatchable s = some r) (hk : r.kind = k.code) (hl : r.body.length = k.bodyLength)
    (hc : cachedReply r s.engine = none) (ha : absorbed r s.engine = false) :
    serve k own s = answer r (own r.body (takeRequest s)).2 (own r.body (takeRequest s)).1 :=
  serveWith_carried hd hk hl hc ha

/-- A property of the state that a dispatch's own bookkeeping and the owning block keep is kept by the dispatch. -/
theorem serveWith_keeps {P : State → Prop} {k : ReqKind} {own : Request → State → State}
    (take : ∀ s, P s → P (takeRequest s)) (ans : ∀ r b s, P s → P (answer r b s))
    (place : ∀ reply s, P s → P (placeReply reply s)) (carried : ∀ r s, P s → P (own r s)) (s : State) (h : P s) :
    P (serveWith k own s) :=
  serveWith_elim k own s h (fun _ reply _ _ => place reply _ (take s h)) (fun _ _ => take s h)
    (fun r _ => ans r _ _ (take s h)) (fun r _ _ _ => carried r _ (take s h))

theorem serve_keeps {P : State → Prop} {k : ReqKind} {own : List Byte → State → State × List Byte}
    (take : ∀ s, P s → P (takeRequest s)) (ans : ∀ r b s, P s → P (answer r b s))
    (place : ∀ reply s, P s → P (placeReply reply s)) (carried : ∀ b s, P s → P (own b s).1) (s : State) (h : P s) :
    P (serve k own s) :=
  serveWith_keeps take ans place (fun r s hs => ans r _ _ (carried r.body s hs)) s h

section answer

variable (kind : Byte) (r : Request) (b : List Byte) (s : State)

@[simp] theorem answerWith_phase : (answerWith kind r b s).phase = s.phase := rfl
@[simp] theorem answerWith_pins : (answerWith kind r b s).pins = s.pins := rfl
@[simp] theorem answerWith_tb : (answerWith kind r b s).tb = s.tb := rfl
@[simp] theorem answerWith_tracker : (answerWith kind r b s).tracker = s.tracker := rfl
@[simp] theorem answerWith_store : (answerWith kind r b s).store = s.store := rfl
@[simp] theorem answerWith_exec : (answerWith kind r b s).exec = s.exec := rfl
@[simp] theorem answerWith_lanes : (answerWith kind r b s).lanes = s.lanes := rfl
@[simp] theorem answerWith_safe : (answerWith kind r b s).safe = s.safe := rfl
@[simp] theorem answerWith_capture : (answerWith kind r b s).capture = s.capture := rfl
@[simp] theorem answerWith_cq : (answerWith kind r b s).cq = s.cq := rfl
@[simp] theorem answerWith_link : (answerWith kind r b s).link = s.link := rfl
@[simp] theorem answerWith_engine : (answerWith kind r b s).engine =
    { s.engine with cache := remember r.key ⟨kind, r.tag, b, false⟩ s.engine.cache } := rfl
@[simp] theorem answerWith_arb : (answerWith kind r b s).arb =
    { s.arb with replies := s.arb.replies ++ [⟨kind, r.tag, b, false⟩] } := rfl
@[simp] theorem answerWith_flags : (answerWith kind r b s).flags = s.flags := rfl
@[simp] theorem answerWith_choices : (answerWith kind r b s).choices = s.choices := rfl
@[simp] theorem answerWith_pending : (answerWith kind r b s).pending = s.pending := rfl

end answer

section placeReply

variable (reply : Reply) (s : State)

@[simp] theorem placeReply_phase : (placeReply reply s).phase = s.phase := rfl
@[simp] theorem placeReply_pins : (placeReply reply s).pins = s.pins := rfl
@[simp] theorem placeReply_tb : (placeReply reply s).tb = s.tb := rfl
@[simp] theorem placeReply_tracker : (placeReply reply s).tracker = s.tracker := rfl
@[simp] theorem placeReply_store : (placeReply reply s).store = s.store := rfl
@[simp] theorem placeReply_exec : (placeReply reply s).exec = s.exec := rfl
@[simp] theorem placeReply_lanes : (placeReply reply s).lanes = s.lanes := rfl
@[simp] theorem placeReply_safe : (placeReply reply s).safe = s.safe := rfl
@[simp] theorem placeReply_capture : (placeReply reply s).capture = s.capture := rfl
@[simp] theorem placeReply_cq : (placeReply reply s).cq = s.cq := rfl
@[simp] theorem placeReply_link : (placeReply reply s).link = s.link := rfl
@[simp] theorem placeReply_engine : (placeReply reply s).engine = s.engine := rfl
@[simp] theorem placeReply_arb : (placeReply reply s).arb = { s.arb with replies := s.arb.replies ++ [reply] } := rfl
@[simp] theorem placeReply_flags : (placeReply reply s).flags = s.flags := rfl
@[simp] theorem placeReply_choices : (placeReply reply s).choices = s.choices := rfl
@[simp] theorem placeReply_pending : (placeReply reply s).pending = s.pending := rfl

end placeReply

section takeRequest

variable (s : State)

@[simp] theorem takeRequest_phase : (takeRequest s).phase = s.phase := rfl
@[simp] theorem takeRequest_pins : (takeRequest s).pins = s.pins := rfl
@[simp] theorem takeRequest_tb : (takeRequest s).tb = s.tb := rfl
@[simp] theorem takeRequest_tracker : (takeRequest s).tracker = s.tracker := rfl
@[simp] theorem takeRequest_store : (takeRequest s).store = s.store := rfl
@[simp] theorem takeRequest_exec : (takeRequest s).exec = s.exec := rfl
@[simp] theorem takeRequest_lanes : (takeRequest s).lanes = s.lanes := rfl
@[simp] theorem takeRequest_safe : (takeRequest s).safe = s.safe := rfl
@[simp] theorem takeRequest_capture : (takeRequest s).capture = s.capture := rfl
@[simp] theorem takeRequest_cq : (takeRequest s).cq = s.cq := rfl
@[simp] theorem takeRequest_link : (takeRequest s).link = s.link := rfl
@[simp] theorem takeRequest_engine : (takeRequest s).engine = { s.engine with requests := s.engine.requests.tail } := rfl
@[simp] theorem takeRequest_arb : (takeRequest s).arb = s.arb := rfl
@[simp] theorem takeRequest_flags : (takeRequest s).flags = { s.flags with dispatched := true } := rfl
@[simp] theorem takeRequest_choices : (takeRequest s).choices = s.choices := rfl
@[simp] theorem takeRequest_pending : (takeRequest s).pending = s.pending := rfl

end takeRequest

/-! ### The boundary (R7) -/

section boundary

variable (cause : Cause) (length fires : Nat) (s : State)

@[simp] theorem boundary_phase : (boundary cause length fires s).phase = s.phase := rfl
@[simp] theorem boundary_pins : (boundary cause length fires s).pins = s.pins := rfl
@[simp] theorem boundary_safe : (boundary cause length fires s).safe = s.safe := rfl
@[simp] theorem boundary_capture : (boundary cause length fires s).capture = s.capture := rfl
@[simp] theorem boundary_cq : (boundary cause length fires s).cq = s.cq := rfl
@[simp] theorem boundary_link : (boundary cause length fires s).link = s.link := rfl
@[simp] theorem boundary_arb : (boundary cause length fires s).arb = s.arb := rfl
@[simp] theorem boundary_choices : (boundary cause length fires s).choices = s.choices := rfl
@[simp] theorem boundary_pending : (boundary cause length fires s).pending = s.pending := rfl
@[simp] theorem boundary_tb : (boundary cause length fires s).tb =
    s.tb.boundary (noticeOf cause length s) (s.store.boundary (noticeOf cause length s)).activeBank.length := rfl
@[simp] theorem boundary_tracker : (boundary cause length fires s).tracker =
    (s.tracker.boundary (noticeOf cause length s) s.flags.pulseHeld
      (decide ((s.store.boundary (noticeOf cause length s)).activeBank.length ≠ s.tb.startLen)) s.tb.planned
      (discardCount cause s)).1 := rfl
@[simp] theorem boundary_store : (boundary cause length fires s).store = s.store.boundary (noticeOf cause length s) := rfl
@[simp] theorem boundary_exec : (boundary cause length fires s).exec =
    execBoundary (noticeOf cause length s) (s.store.boundary (noticeOf cause length s)) s := rfl
@[simp] theorem boundary_lanes : (boundary cause length fires s).lanes =
    fireAll s.tb.tick
      ((firings (noticeOf cause length s) (s.store.boundary (noticeOf cause length s)) s).take fires) s.lanes := rfl
@[simp] theorem boundary_waiting : (boundary cause length fires s).flags.waiting =
    (firings (noticeOf cause length s) (s.store.boundary (noticeOf cause length s)) s).drop fires := rfl
@[simp] theorem boundary_engine :
    (boundary cause length fires s).engine = s.engine.boundary (noticeOf cause length s) := rfl

/-- The events that each block raises at a boundary, behind those it has raised at the tick before it. -/
theorem boundary_handed : (boundary cause length fires s).flags.handed =
    ⟨s.flags.handed.tracker ++
        (s.tracker.boundary (noticeOf cause length s) s.flags.pulseHeld
          (decide ((s.store.boundary (noticeOf cause length s)).activeBank.length ≠ s.tb.startLen)) s.tb.planned
          (discardCount cause s)).2,
      s.flags.handed.store ++ s.store.boundaryEvents (noticeOf cause length s),
      s.flags.handed.executor ++
        actionEvents
          ((firings (noticeOf cause length s) (s.store.boundary (noticeOf cause length s)) s).take fires),
      s.flags.handed.safe⟩ := rfl

end boundary

theorem insertWait_length (current : FrameNo) (w : Wait) (ws : List Wait) :
    (insertWait current w ws).length = ws.length + 1 := by
  induction ws with
  | nil => rfl
  | cons v vs ih =>
    unfold insertWait
    split
    · rfl
    · simp [ih]

/-- A boundary moves waits to the due replies and loses none (R159, R160). -/
theorem Engine.boundary_waits_due (n : Notice) (e : Engine) :
    (e.boundary n).waits.length + (e.boundary n).due.length = e.waits.length + e.due.length := by
  have hfold : ∀ (ws acc : List Wait),
      (ws.foldl (fun ws w => insertWait n.newFrame w ws) acc).length = acc.length + ws.length := by
    intro ws
    induction ws with
    | nil => intro acc; rfl
    | cons w ws ih => intro acc; rw [List.foldl_cons, ih, insertWait_length, List.length_cons]; omega
  have hsplit : ∀ ws : List Wait,
      (ws.filter fun w => (waitDue n w).isNone).length + (ws.filterMap (waitDue n)).length = ws.length := by
    intro ws
    induction ws with
    | nil => rfl
    | cons w ws ih =>
      cases hw : waitDue n w with
      | none => simp [hw] at ih ⊢; omega
      | some d => simp [hw] at ih ⊢; omega
  have h := hsplit e.waits
  unfold Engine.boundary
  simp only [List.length_append]
  split
  · rw [hfold]; simp only [List.length_nil]; omega
  · omega

@[simp] theorem Engine.boundary_requests (n : Notice) (e : Engine) : (e.boundary n).requests = e.requests := rfl
@[simp] theorem Engine.boundary_cache (n : Notice) (e : Engine) : (e.boundary n).cache = e.cache := rfl
@[simp] theorem Engine.boundary_state (n : Notice) (e : Engine) : (e.boundary n).state = e.state := rfl

/-! ### The safe latch (R91, R99) -/

theorem setLatch_of_set {cause c : SafeCause} {s : State} (h : s.safe.latch = some c) : setLatch cause s = s := by
  simp [setLatch, h]

theorem setLatch_of_clear {cause : SafeCause} {s : State} (h : s.safe.latch = none) :
    setLatch cause s =
      raise .safe [.safeEntered cause (presentStamp s).1 (presentStamp s).2]
        { useOffset s with
          safe := { s.safe with latch := some cause }
          lanes := Lanes.zip (fun l p => { l with hold := p }) s.lanes s.pins.outputsBefore } := by
  simp [setLatch, h]

end Sys2Proof.Machine
end

