-- ==== Sys2Proof/Laws/Frame.lean ====
section
/-! SUPPORT. Which commands write the timebase, the tracker, the schedule store and the executor. -/

namespace Sys2Proof.Machine

/-- The blocks that pace and schedule the frame. -/
structure FrameBlocks where
  tb : Timebase
  tracker : Tracker
  store : Store
  exec : Executor

/-- The frame blocks of a state. -/
def frameBlocks (s : State) : FrameBlocks := ⟨s.tb, s.tracker, s.store, s.exec⟩

/-- The commands that may change a frame block other than by a reset. -/
def writesFrameBlocks : Instr → Bool
  | .referencePulse _ | .nominalBoundary _ | .miss | .frameOutEnd | .entryFire | .trackConfig | .trackStatus | .frameRenumber
  | .entryAdd | .entryRemove | .bankClear | .bankCopy | .bankLength | .commit | .commitCancel => true
  | _ => false

/-- The frame blocks at every reset. -/
def resetFrameBlocks : FrameBlocks := ⟨Timebase.reset, Tracker.reset, Store.reset, Executor.reset⟩

/-- A dispatch leaves the frame blocks where its owning block does. -/
theorem serve_frameBlocks {k : ReqKind} {own : List Byte → State → State × List Byte}
    (h : ∀ b s, frameBlocks (own b s).1 = frameBlocks s) (s : State) : frameBlocks (serve k own s) = frameBlocks s :=
  serve_keeps (P := fun t => frameBlocks t = frameBlocks s) (fun _ h => h) (fun _ _ _ h => h) (fun _ _ h => h)
    (fun b u hu => (h b u).trans hu) s rfl

theorem serveWith_frameBlocks {k : ReqKind} {own : Request → State → State}
    (h : ∀ r s, frameBlocks (own r s) = frameBlocks s) (s : State) : frameBlocks (serveWith k own s) = frameBlocks s :=
  serveWith_keeps (P := fun t => frameBlocks t = frameBlocks s) (fun _ h => h) (fun _ _ _ h => h) (fun _ _ h => h)
    (fun b u hu => (h b u).trans hu) s rfl

theorem settleRestart_frameBlocks (s : State) :
    frameBlocks (settleRestart s) = frameBlocks s ∨ frameBlocks (settleRestart s) = resetFrameBlocks := by
  unfold settleRestart; split
  · right; rfl
  · left; rfl

theorem setOutLane_frameBlocks (lane : Lane) (l : OutLane) (s : State) :
    frameBlocks (setOutLane lane l s) = frameBlocks s := rfl
theorem setInLane_frameBlocks (lane : Lane) (l : InLane) (s : State) :
    frameBlocks (setInLane lane l s) = frameBlocks s := rfl

theorem changeLane_frameBlocks (b : Byte) (own : OutLane → Status × OutLane) (s : State) :
    frameBlocks (changeLane b own s).1 = frameBlocks s := by
  unfold changeLane; split <;> rfl

theorem setLatch_frameBlocks (cause : SafeCause) (s : State) : frameBlocks (setLatch cause s) = frameBlocks s := by
  unfold setLatch
  split <;> rfl

theorem intake_frameBlocks (r : Request) (s : State) : frameBlocks (intake r s) = frameBlocks s := by
  unfold intake; split
  · rfl
  · split
    · rfl
    · split <;> rfl

theorem foldl_frameBlocks {α : Type} (f : State → α → State) (h : ∀ s a, frameBlocks (f s a) = frameBlocks s)
    (l : List α) (s : State) : frameBlocks (l.foldl f s) = frameBlocks s := by
  induction l generalizing s with
  | nil => rfl
  | cons a l ih => rw [List.foldl_cons, ih, h]

theorem sampleInput_frameBlocks (l : Lane) (s : State) : frameBlocks (sampleInput l s) = frameBlocks s := by
  unfold sampleInput; dsimp only; split
  · rfl
  · split <;> rfl

theorem deliver_frameBlocks (lane : Lane) (e : EdgeDir) (f : FrameNo) (o : Nat) (q : TrackState) (s : State) :
    frameBlocks (deliver lane e f o q s) = frameBlocks s := by
  unfold deliver; dsimp only; split <;> rfl

theorem groupLane_frameBlocks (q : Lane → TrackState) (l : Lane) (s : State) : frameBlocks (groupLane q l s) = frameBlocks s := by
  unfold groupLane; split
  · split
    · unfold qualifyLane; dsimp only; split
      · rw [deliver_frameBlocks]; rfl
      · rfl
    · rfl
  · rfl

theorem setFlags_frameBlocks (s : State) (x : TickFlags) : frameBlocks (s.setFlags x) = frameBlocks s := rfl

/-- Every other command leaves the timebase, the tracker, the store and the executor as they were, or resets all four. -/
theorem exec_keeps_frameBlocks (c : Instr) (s t : State) (hc : writesFrameBlocks c = false) (e : exec c s = .next t) :
    frameBlocks t = frameBlocks s ∨ frameBlocks t = resetFrameBlocks := by
  have hs := settleRestart_frameBlocks s
  cases c
  all_goals first | (simp [writesFrameBlocks] at hc; done) | skip
  all_goals (simp only [exec] at e; injection e with e; subst e)
  case powerOn =>
    split
    · left; rfl
    · dsimp only; split <;> (right; rfl)
  case resetNAssert => split <;> first | (left; rfl) | (right; rfl)
  case resetNRelease =>
    split
    · left; rfl
    · dsimp only; split <;> (right; rfl)
  case synthesizerLock => split <;> first | (left; rfl) | (right; rfl)
  case supplyLoss => split <;> first | (left; rfl) | (right; rfl)
  case pulseEnd => left; split <;> rfl
  case safeNChange =>
    left; split
    · unfold sampleSafe; dsimp only; split
      · rfl
      · split <;> rfl
    · rfl
  case safeNQualified =>
    left; split
    · dsimp only; split
      · rw [setLatch_frameBlocks]; rfl
      · rfl
    · rfl
  case inputLevelChange =>
    left; split
    · rw [sampleInput_frameBlocks]; rfl
    · rfl
  case edgeQualified =>
    left; split
    · dsimp only
      have hr : frameBlocks (sampleRest s) = frameBlocks s := by
        unfold sampleRest
        rw [foldl_frameBlocks]
        intro s a; split
        · exact sampleInput_frameBlocks ..
        · rfl
      rw [setFlags_frameBlocks, foldl_frameBlocks _ (fun s a => groupLane_frameBlocks ..)]
      split
      · exact hr
      · exact hr
    · rfl
  case receiveFrame =>
    split
    · split
      · left; rfl
      · dsimp only
        split
        · rw [intake_frameBlocks]; exact settleRestart_frameBlocks _
        · exact settleRestart_frameBlocks _
    · left; rfl
  case noiseByte =>
    split
    · dsimp only; split
      · exact hs
      · left; rfl
    · left; rfl
  case stopBitError =>
    split
    · exact hs
    · left; rfl
  case lengthError => left; split <;> rfl
  case frameTimeout => left; split <;> rfl
  case goodByte =>
    split
    · dsimp only; split
      · exact hs
      · left; rfl
    · left; rfl
  case transmitStart =>
    left
    split
    · split
      · rfl
      · split
        · rfl
        · split <;> rfl
    · rfl
  case frameSent =>
    left
    split
    · split <;> rfl
    · rfl
  case dueReplyPlace =>
    left
    split
    · dsimp only
      exact (foldl_frameBlocks (fun s' d => placeDue d s') (fun _ _ => rfl) _ _).trans rfl
    · rfl
  case restartReplyPlace => left; split; split <;> rfl; rfl
  case restartTakesEffect => split <;> first | (left; rfl) | (right; rfl)
  case unknownKind =>
    left
    split
    · rfl
    · split
      · unfold retryOutcome; dsimp only
        split
        · rename_i h; split at h
          · cases h; rfl
          · split at h
            · cases h; rfl
            · cases h
        · rfl
      · rfl
  case receiverArmed => left; split <;> rfl
  case startBit => left; split <;> rfl
  case falseStart => left; split <;> rfl
  case restart =>
    left
    exact serveWith_frameBlocks (own := ownRestart) (fun _ _ => rfl) s
  case syncWait =>
    left
    exact serveWith_frameBlocks (fun r s => by unfold ownSyncWait; dsimp only; split; rfl; split <;> rfl) s
  case identify =>
    left
    exact serve_frameBlocks (fun _ _ => rfl) s
  case timeRead =>
    left
    exact serve_frameBlocks (own := ownTimeRead) (fun _ _ => rfl) s
  case captureStatus =>
    left
    exact serve_frameBlocks (fun _ _ => rfl) s
  case captureGrant =>
    left
    exact serve_frameBlocks (fun _ _ => rfl) s
  case captureFlush =>
    left
    exact serve_frameBlocks (fun _ _ => rfl) s
  case linkStats =>
    left
    exact serve_frameBlocks (fun b s => by unfold ownLinkStats; split; rfl; dsimp only; split <;> rfl) s
  case bankRead =>
    left
    exact serve_frameBlocks (fun b s => by unfold ownBankRead; split; split; rfl; split <;> rfl; rfl) s
  case laneConfig =>
    left
    exact serve_frameBlocks (fun b s => by unfold ownLaneConfig; split; exact changeLane_frameBlocks ..; rfl) s
  case laneForce =>
    left
    exact serve_frameBlocks (fun b s => by unfold ownLaneForce; split; exact changeLane_frameBlocks ..; rfl) s
  case laneRelease =>
    left
    exact serve_frameBlocks (fun b s => by unfold ownLaneRelease; split; exact changeLane_frameBlocks ..; rfl) s
  case laneStatus =>
    left
    exact serve_frameBlocks (fun b s => by unfold ownLaneStatus; split <;> rfl) s
  case safeEnter =>
    left
    exact serve_frameBlocks (fun b s => setLatch_frameBlocks ..) s
  case safeRelease =>
    left
    exact serve_frameBlocks (fun b s => by unfold ownSafeRelease; split <;> rfl) s
  case inputConfig =>
    left
    exact serve_frameBlocks (fun b s => by unfold ownInputConfig; split; split; rfl; split <;> rfl; rfl) s
  case latchRead =>
    left
    exact serve_frameBlocks (fun b s => by unfold ownLatchRead; split; rfl; dsimp only; split; rfl; split <;> rfl) s
end Sys2Proof.Machine
end

