-- ==== Sys2Proof/Laws/PerInstr.lean ====
section
/-! SUPPORT. Statements about every command as syntax, one lemma per command. -/

/-- The operands that a row allows: a noise byte is any byte but SYNC (R141), a length error's byte is above 240 (R142), and
every other command takes every operand. -/
def Sys2Proof.Laws.OperandRange.Statement (c : Sys2Proof.Instr) : Prop :=
  c.wellFormed = true ↔
    match c with
    | .noiseByte b => b ≠ 0xA5
    | .lengthError b => 240 < b.toNat
    | _ => True

namespace Sys2Proof.Laws.OperandRange

theorem powerOn (baud1 : Level) (baud0 : Level) : Statement (.powerOn baud1 baud0) := ⟨fun _ => trivial, fun _ => rfl⟩

theorem resetNAssert : Statement .resetNAssert := ⟨fun _ => trivial, fun _ => rfl⟩

theorem resetNRelease (baud1 : Level) (baud0 : Level) : Statement (.resetNRelease baud1 baud0) := ⟨fun _ => trivial, fun _ => rfl⟩

theorem synthesizerLock : Statement .synthesizerLock := ⟨fun _ => trivial, fun _ => rfl⟩

theorem referencePulse (edge : PulseEdge) : Statement (.referencePulse edge) := ⟨fun _ => trivial, fun _ => rfl⟩

theorem nominalBoundary (fires : Nat) : Statement (.nominalBoundary fires) := ⟨fun _ => trivial, fun _ => rfl⟩

theorem miss : Statement .miss := ⟨fun _ => trivial, fun _ => rfl⟩

theorem frameOutEnd : Statement .frameOutEnd := ⟨fun _ => trivial, fun _ => rfl⟩

theorem entryFire : Statement .entryFire := ⟨fun _ => trivial, fun _ => rfl⟩

theorem pulseEnd (lane : Lane) : Statement (.pulseEnd lane) := ⟨fun _ => trivial, fun _ => rfl⟩

theorem safeNChange (level : Level) : Statement (.safeNChange level) := ⟨fun _ => trivial, fun _ => rfl⟩

theorem safeNQualified : Statement .safeNQualified := ⟨fun _ => trivial, fun _ => rfl⟩

theorem inputLevelChange (lane : Lane) (level : Level) : Statement (.inputLevelChange lane level) := ⟨fun _ => trivial, fun _ => rfl⟩

theorem edgeQualified (before : BitVec 16) : Statement (.edgeQualified before) := ⟨fun _ => trivial, fun _ => rfl⟩

theorem receiveFrame (crcLow : Byte) : Statement (.receiveFrame crcLow) := ⟨fun _ => trivial, fun _ => rfl⟩

theorem noiseByte (byte : Byte) : Statement (.noiseByte byte) := by
  simp [Statement, Instr.wellFormed, Config.syncByte]

theorem stopBitError : Statement .stopBitError := ⟨fun _ => trivial, fun _ => rfl⟩

theorem lengthError (byte : Byte) : Statement (.lengthError byte) := ⟨of_decide_eq_true, decide_eq_true⟩

theorem frameTimeout : Statement .frameTimeout := ⟨fun _ => trivial, fun _ => rfl⟩

theorem transmitStart : Statement .transmitStart := ⟨fun _ => trivial, fun _ => rfl⟩

theorem frameSent : Statement .frameSent := ⟨fun _ => trivial, fun _ => rfl⟩

theorem dueReplyPlace : Statement .dueReplyPlace := ⟨fun _ => trivial, fun _ => rfl⟩

theorem restartReplyPlace : Statement .restartReplyPlace := ⟨fun _ => trivial, fun _ => rfl⟩

theorem restartTakesEffect : Statement .restartTakesEffect := ⟨fun _ => trivial, fun _ => rfl⟩

theorem unknownKind : Statement .unknownKind := ⟨fun _ => trivial, fun _ => rfl⟩

theorem identify : Statement .identify := ⟨fun _ => trivial, fun _ => rfl⟩

theorem linkStats : Statement .linkStats := ⟨fun _ => trivial, fun _ => rfl⟩

theorem restart : Statement .restart := ⟨fun _ => trivial, fun _ => rfl⟩

theorem syncWait : Statement .syncWait := ⟨fun _ => trivial, fun _ => rfl⟩

theorem timeRead : Statement .timeRead := ⟨fun _ => trivial, fun _ => rfl⟩

theorem frameRenumber : Statement .frameRenumber := ⟨fun _ => trivial, fun _ => rfl⟩

theorem trackConfig : Statement .trackConfig := ⟨fun _ => trivial, fun _ => rfl⟩

theorem trackStatus : Statement .trackStatus := ⟨fun _ => trivial, fun _ => rfl⟩

theorem entryAdd : Statement .entryAdd := ⟨fun _ => trivial, fun _ => rfl⟩

theorem entryRemove : Statement .entryRemove := ⟨fun _ => trivial, fun _ => rfl⟩

theorem bankClear : Statement .bankClear := ⟨fun _ => trivial, fun _ => rfl⟩

theorem bankCopy : Statement .bankCopy := ⟨fun _ => trivial, fun _ => rfl⟩

theorem bankLength : Statement .bankLength := ⟨fun _ => trivial, fun _ => rfl⟩

theorem bankRead : Statement .bankRead := ⟨fun _ => trivial, fun _ => rfl⟩

theorem commit : Statement .commit := ⟨fun _ => trivial, fun _ => rfl⟩

theorem commitCancel : Statement .commitCancel := ⟨fun _ => trivial, fun _ => rfl⟩

theorem laneConfig : Statement .laneConfig := ⟨fun _ => trivial, fun _ => rfl⟩

theorem laneForce : Statement .laneForce := ⟨fun _ => trivial, fun _ => rfl⟩

theorem laneRelease : Statement .laneRelease := ⟨fun _ => trivial, fun _ => rfl⟩

theorem laneStatus : Statement .laneStatus := ⟨fun _ => trivial, fun _ => rfl⟩

theorem safeEnter : Statement .safeEnter := ⟨fun _ => trivial, fun _ => rfl⟩

theorem safeRelease : Statement .safeRelease := ⟨fun _ => trivial, fun _ => rfl⟩

theorem inputConfig : Statement .inputConfig := ⟨fun _ => trivial, fun _ => rfl⟩

theorem latchRead : Statement .latchRead := ⟨fun _ => trivial, fun _ => rfl⟩

theorem captureGrant : Statement .captureGrant := ⟨fun _ => trivial, fun _ => rfl⟩

theorem captureFlush : Statement .captureFlush := ⟨fun _ => trivial, fun _ => rfl⟩

theorem captureStatus : Statement .captureStatus := ⟨fun _ => trivial, fun _ => rfl⟩

theorem supplyLoss : Statement .supplyLoss := ⟨fun _ => trivial, fun _ => rfl⟩

theorem receiverArmed : Statement .receiverArmed := ⟨fun _ => trivial, fun _ => rfl⟩

theorem startBit : Statement .startBit := ⟨fun _ => trivial, fun _ => rfl⟩

theorem falseStart : Statement .falseStart := ⟨fun _ => trivial, fun _ => rfl⟩

theorem goodByte (byte : Byte) : Statement (.goodByte byte) := ⟨fun _ => trivial, fun _ => rfl⟩

end Sys2Proof.Laws.OperandRange
end

