-- ==== Sys2Proof/Laws/Schedule.lean ====
section
/-! SUPPORT. The schedule store's operations keep the rule of a bank's list (R43), and what a boundary leaves of banks and
windows. -/

namespace Sys2Proof.Machine

theorem bank_ordered {st : Store} (h : st.bankA.ordered ∧ st.bankB.ordered) (i : BankId) : (st.bank i).ordered := by
  cases i
  · exact h.1
  · exact h.2

theorem setShadow_ordered {st : Store} (h : st.bankA.ordered ∧ st.bankB.ordered) {b : Bank} (hb : b.ordered) :
    (st.setShadow b).bankA.ordered ∧ (st.setShadow b).bankB.ordered := by
  unfold Store.setShadow
  split
  · exact ⟨h.1, hb⟩
  · exact ⟨hb, h.2⟩

theorem keyBefore_iff (a : Nat) (b : Lane) (c : Nat) (d : Lane) :
    keyBefore a b c d = true ↔ a < c ∨ (a = c ∧ b.val < d.val) := by
  simp [keyBefore]

/-- An ordered list splits at the index of a key into the entries before it and those not before it (R49). -/
theorem key_split (o : Nat) (l : Lane) (es : List Entry)
    (hs : es.Pairwise (fun e f => keyBefore e.offset e.lane f.offset f.lane = true)) :
    (∀ e ∈ es.take (keyIndex o l es), keyBefore e.offset e.lane o l = true) ∧
      (∀ e ∈ es.drop (keyIndex o l es), keyBefore e.offset e.lane o l = false) := by
  induction es with
  | nil => simp
  | cons e es ih =>
    rw [List.pairwise_cons] at hs
    have ih := ih hs.2
    unfold keyIndex at ih ⊢
    by_cases he : keyBefore e.offset e.lane o l = true
    · simp only [List.filter_cons, he, if_true, List.length_cons, List.take_succ_cons, List.drop_succ_cons]
      refine ⟨?_, ih.2⟩
      intro f hf
      rw [List.mem_cons] at hf
      rcases hf with rfl | hf
      · exact he
      · exact ih.1 f hf
    · have hall : ∀ f ∈ es, keyBefore f.offset f.lane o l = false := by
        intro f hf
        have h1 := hs.1 f hf
        by_contra hn
        have h2 : keyBefore f.offset f.lane o l = true := by simpa using hn
        rw [keyBefore_iff] at h1 h2 he
        apply he; omega
      have hz : es.filter (fun f => keyBefore f.offset f.lane o l) = [] := by
        rw [List.filter_eq_nil_iff]; intro f hf; simp [hall f hf]
      simp only [List.filter_cons, he, hz]
      simp only [Bool.false_eq_true, if_false, List.length_nil, List.take_zero, List.drop_zero]
      refine ⟨by simp, ?_⟩
      intro f hf
      rw [List.mem_cons] at hf
      rcases hf with rfl | hf
      · simpa using he
      · exact hall f hf

theorem addEntry_ordered {b x : List Byte} {bank bank' : Bank} (h : bank.ordered) (e : addEntry b bank = .ok (x, bank')) :
    bank'.ordered := by
  unfold addEntry at e
  split at e
  · cases e
  · rename_i en _
    split at e
    · cases e
    · rename_i hv
      split at e
      · cases e
      · rename_i hk
        split at e
        · cases e
        · rename_i hl
          dsimp only at e
          injection e with e; injection e with _ e; subst e
          obtain ⟨h1, h2, h3, h4⟩ := h
          have hks := key_split en.offset en.lane bank.entries h3
          set i := keyIndex en.offset en.lane bank.entries
          have hnone : ∀ f ∈ bank.entries, ¬ (f.offset = en.offset ∧ f.lane = en.lane) := by
            simpa [Entry.hasKey] using hk
          refine ⟨h1, ?_, ?_, ?_⟩
          · have := List.take_append_drop i bank.entries
            have hlen := congrArg List.length this
            simp only [List.length_append, List.length_cons] at hlen ⊢
            omega
          · rw [List.pairwise_append, List.pairwise_cons]
            have hp := h3
            rw [← List.take_append_drop i bank.entries, List.pairwise_append] at hp
            refine ⟨hp.1, ⟨?_, hp.2.1⟩, ?_⟩
            · intro f hf
              have := hks.2 f hf
              have hne := hnone f (List.mem_of_mem_drop hf)
              rw [Bool.eq_false_iff, Ne, keyBefore_iff] at this
              rw [keyBefore_iff]
              have hne' : ¬ (f.offset = en.offset ∧ f.lane.val = en.lane.val) :=
                fun hh => hne ⟨hh.1, Fin.ext hh.2⟩
              omega
            · intro f hf g hg
              rw [List.mem_cons] at hg
              rcases hg with rfl | hg
              · exact hks.1 f hf
              · exact hp.2.2 f hf g hg
          · intro f hf
            rw [List.mem_append, List.mem_cons] at hf
            rcases hf with hf | rfl | hf
            · exact h4 f (List.mem_of_mem_take hf)
            · simpa using hv
            · exact h4 f (List.mem_of_mem_drop hf)

theorem sublist_ordered {bank : Bank} (h : bank.ordered) {es : List Entry} (hs : es.Sublist bank.entries) :
    ({ bank with entries := es } : Bank).ordered :=
  ⟨h.1, hs.length_le.trans h.2.1, h.2.2.1.sublist hs, fun e he => h.2.2.2 e (hs.subset he)⟩

theorem removeEntry_ordered {b x : List Byte} {bank bank' : Bank} (h : bank.ordered) (e : removeEntry b bank = .ok (x, bank')) :
    bank'.ordered := by
  unfold removeEntry at e
  split at e
  · split at e
    · cases e
    · dsimp only at e
      split at e
      · cases e
      · split at e
        · injection e with e; injection e with _ e; subst e
          apply sublist_ordered h
          generalize keyIndex _ _ _ = i
          conv_rhs => rw [← List.take_append_drop i bank.entries]
          apply List.Sublist.append_left
          rw [← List.drop_drop]
          exact List.drop_sublist ..
        · cases e
  · cases e

theorem lengthenBank_ordered {b x : List Byte} {bank bank' : Bank} (h : bank.ordered) (e : lengthenBank b bank = .ok (x, bank')) :
    bank'.ordered := by
  unfold lengthenBank at e
  dsimp only at e
  split at e
  · cases e
  · rename_i h1
    split at e
    · cases e
    · rename_i h2
      injection e with e; injection e with _ e; subst e
      have h2 : ∀ f ∈ bank.entries, f.offset < beNat b := by simpa using h2
      refine ⟨⟨by dsimp only; omega, by dsimp only; omega⟩, h.2.1, h.2.2.1, ?_⟩
      intro f hf
      have hv := h.2.2.2 f hf
      have := h2 f hf
      unfold Entry.valid at hv ⊢
      simp only [Bool.and_eq_true, decide_eq_true_eq] at hv ⊢
      exact ⟨⟨⟨⟨this, hv.1.1.1.2⟩, hv.1.1.2⟩, hv.1.2⟩, hv.2⟩

/-- An edit leaves the state as it was, or replaces the shadow by what its checks let through (R45). -/
theorem editShadow_elim {P : State → Prop} {absent : List Byte} {edit : Bank → Except Status (List Byte × Bank)} (s : State)
    (accepted : ∀ x b, edit s.store.shadow = .ok (x, b) → P (s.setStore (s.store.setShadow b))) (refused : P s) :
    P (editShadow absent edit s).1 := by
  unfold editShadow
  split
  · exact refused
  · split
    · exact refused
    · rename_i hh
      exact accepted _ _ hh

theorem bank_setShadow (st : Store) (b : Bank) (i : BankId) (h : i = st.active) :
    (st.setShadow b).bank i = st.bank i := by
  subst h
  unfold Store.setShadow Store.bank
  cases h : st.active <;> simp

theorem active_setShadow (st : Store) (b : Bank) : (st.setShadow b).active = st.active := by
  unfold Store.setShadow
  cases st.active <;> rfl

theorem commit_setShadow (st : Store) (b : Bank) : (st.setShadow b).commit = st.commit := by
  unfold Store.setShadow
  cases st.active <;> rfl

theorem inWindow_windows (c : Int) (f : FrameNo) (t : Tracker) :
    (t.inWindow c f).1.w = t.w ∧ (t.inWindow c f).1.window = t.window := by
  unfold Tracker.inWindow Tracker.change
  dsimp only
  split <;> simp

theorem lengthReaction_windows (f : FrameNo) (t : Tracker) :
    (t.lengthReaction f).1.w = t.w ∧ (t.lengthReaction f).1.window = t.window := by
  unfold Tracker.lengthReaction Tracker.change
  split <;> simp

theorem countHoldover_windows (f : FrameNo) (t : Tracker) :
    (t.countHoldover f).1.w = t.w ∧ (t.countHoldover f).1.window = t.window := by
  unfold Tracker.countHoldover Tracker.change
  dsimp only
  split
  · split <;> simp
  · simp

/-- A boundary keeps the configured W and makes it the frame window (R20). -/
theorem boundary_windows (n : Notice) (hold : PulseHold) (changed : Bool) (p d : Nat) (t : Tracker) :
    (t.boundary n hold changed p d).1.w = t.w ∧ (t.boundary n hold changed p d).1.window = t.w := by
  have key : ∀ r : Tracker × List Event, r.1.w = t.w ∧ r.1.window = t.w →
      ((if changed then Tracker.andThen r (Tracker.lengthReaction n.newFrame) else r)).1.w = t.w ∧
        (if changed then Tracker.andThen r (Tracker.lengthReaction n.newFrame) else r).1.window = t.w := by
    intro r hr
    split
    · have := lengthReaction_windows n.newFrame r.1
      exact ⟨this.1.trans hr.1, this.2.trans hr.2⟩
    · exact hr
  unfold Tracker.boundary
  dsimp only
  apply key
  cases n.cause with
  | nominal =>
    dsimp only
    unfold Tracker.andThen
    dsimp only
    rw [(countHoldover_windows _ _).1, (countHoldover_windows _ _).2]
    unfold Tracker.takeHeld
    split
    · exact ⟨rfl, rfl⟩
    · rw [(inWindow_windows _ _ _).1, (inWindow_windows _ _ _).2]; exact ⟨rfl, rfl⟩
    · exact ⟨rfl, rfl⟩
  | early => dsimp only; rw [(inWindow_windows _ _ _).1, (inWindow_windows _ _ _).2]; exact ⟨rfl, rfl⟩
  | cut => exact ⟨rfl, rfl⟩

theorem storeBoundary_banks (n : Notice) (st : Store) :
    (st.boundary n).bankA = st.bankA ∧ (st.boundary n).bankB = st.bankB := by
  unfold Store.boundary
  split <;> exact ⟨rfl, rfl⟩

end Sys2Proof.Machine
end

