-- ==== Sys2Proof/Tests/Slice0.lean ====
section
/-! SUPPORT. The model's own tests: the operand checks, worked examples of the spec, and for each statement of
Certificates/Slice0 states and operands that meet its hypotheses, with what the model answers there. -/

namespace Sys2Proof.Tests

open Sys2Proof.Machine Sys2Proof.Claims

/-! ### Small states -/

/-- The state a command gives; the machine after reset where it gives none. -/
def after (o : Host.Outcome State Fault Refusal) : State :=
  match o with
  | .next t => t
  | .fault _ => State.reset
  | .refused _ => State.reset

/-- A request as the link port hands it on, with tag 7. -/
def ask (k : ReqKind) (b : List Byte) : Request := ⟨k.code, 7, b, 0x1234⟩

/-- A state with one request waiting to be dispatched. -/
def asked (k : ReqKind) (b : List Byte) (s : State) : State :=
  { s with engine := { s.engine with requests := [ask k b] } }

/-- The reply bodies that a request command leaves in the reply queue. -/
def answers (c : Instr) (k : ReqKind) (b : List Byte) (s : State) : List (List Byte) :=
  (after (exec c (asked k b s))).arb.replies.map Reply.body

/-- A state at an offset of the running frame. -/
def atTick (offset : Nat) (s : State) : State :=
  { s with tb := { s.tb with offset := offset, tick := s.tb.start + BitVec.ofNat 64 offset } }

/-- A state whose tracker follows the reference in a state, with window W. -/
def tracking (st : TrackState) (w : Nat) (s : State) : State :=
  { s with tracker := { s.tracker with mode := .externalMode, state := st, w := w, window := w } }

/-- A state with a commit pending for a frame. -/
def committing (target : FrameNo) (s : State) : State := { s with store := { s.store with commit := .pending target } }

/-- A state with the receiver armed and a character at the middle of its bit time `n`. -/
def reading (n : Nat) (s : State) : State :=
  { s with
    link :=
      { s.link with
        receiver := .armed, character := .reading (s.tb.tick - BitVec.ofNat 64 (middleTick s.link.baud n)) } }

/-- A state with the parser in a state and a character at the middle of its stop bit. -/
def parsing (p : Parser) (s : State) : State := reading 9 { s with link := { s.link with parser := p } }

/-- The start of a character whose stop bit's middle, at 115,200 baud, is tick 0. -/
def byteStart : Tick := 0 - BitVec.ofNat 64 (middleTick .b115200 9)

/-- The firing of an entry in frame 0 from bank A. -/
def firing (e : Entry) : Firing := ⟨e, 0, .a, false⟩

/-- A SET entry with no tag. -/
def setEntry (offset : Nat) (lane : Lane) : Entry := ⟨offset, lane, .set, none, 1, 0, false, none⟩

/-- A state with a frame on TXD that began at the present tick. -/
def sending (frame : List Byte) (restarts : Bool) (s : State) : State :=
  { s with link := { s.link with transmitter := .sending frame s.tb.tick restarts } }

/-- A state with ticks gone by since. -/
def later (n : Nat) (s : State) : State := { s with tb := { s.tb with tick := s.tb.tick + BitVec.ofNat 64 n } }

/-! ### Operand checks and the CRC -/

theorem test_noiseByte_refuses_sync : (Instr.noiseByte 0xA5).wellFormed = false ∧ (Instr.noiseByte 0xA4).wellFormed = true := by
  decide

theorem test_lengthError_refuses_240 : (Instr.lengthError 240).wellFormed = false ∧ (Instr.lengthError 241).wellFormed = true := by
  decide

set_option maxRecDepth 4000 in
/-- The check value of R140. -/
theorem test_crc_check_value : crcOf [0x31, 0x32, 0x33, 0x34, 0x35, 0x36, 0x37, 0x38, 0x39] = 0x29B1 := by decide

/-! ### Steps -/

theorem test_step_runs_front : step { State.reset with pending := [.startBit, .resetNAssert] }
      = exec .startBit { State.reset with pending := [.resetNAssert] } := rfl

/-- Right after reset READY may be sent at this tick or at the next; with no event queued nothing is due and the tick begins; in
reset nothing does. -/
theorem test_empty_queue : State.reset.pending = [] ∧ due State.reset = [.event .transmitStart] ∧ mandatory State.reset = [] ∧
    mandatory (beginTick State.reset) = [.event .transmitStart] ∧
    due { State.reset with arb := ⟨[], [], 0⟩ } = [] ∧
    (after (step { State.reset with arb := ⟨[], [], 0⟩ })).tb.offset = 1 ∧
    after (step { State.reset with phase := .reset }) = { State.reset with phase := .reset } := by decide

/-- A request that stands at the first moment of a tick is dispatched at it; one that is taken in later may be. -/
theorem test_dispatch_is_owed :
    mandatory (beginTick (asked .identify [] { State.reset with arb := ⟨[], [], 0⟩ })) = [.event .identify] ∧
    mandatory (asked .identify [] { State.reset with arb := ⟨[], [], 0⟩ }) = [] ∧
    due (asked .identify [] { State.reset with arb := ⟨[], [], 0⟩ }) = [.event .identify] := by decide

/-- Two events of the tracker and one of the store wait; the store's may enter between them, but not while a pulse is sampled. -/
theorem test_events_enter :
    let h : Handed := ⟨[.ready .pin, .ready .restart], [.committed 1 .b 100000 .nominal], [], []⟩
    let s := { State.reset with flags := { State.reset.flags with handed := h } }
    let full := { s with arb := ⟨[], List.replicate 16 (.ready .pin), 65535⟩ }
    s.phase = .running ∧ s.flags.handed.of .tracker = .ready .pin :: [.ready .restart] ∧
      (enter .store (enter .tracker s)).arb.events = [.ready .power, .ready .pin, .committed 1 .b 100000 .nominal] ∧
      (enter .store s).flags.reported = true ∧ (enter .tracker full).arb = full.arb ∧
      OwnAct.enter .store ∈ due s ∧
      OwnAct.enter .store ∉ due { s with flags := { s.flags with edgeNow := true } } := by decide

/-- The last tick of a frame: the next one is its boundary. -/
theorem test_tick_to_boundary :
    (beginTick (atTick 99998 State.reset)).flags.boundaryDue = false ∧ (beginTick (atTick 99998 State.reset)).tb.offset = 99999 ∧
    (beginTick (atTick 99999 State.reset)).flags.boundaryDue = true ∧ (beginTick (atTick 99999 State.reset)).tb.offset = 99999 := by
  decide

/-! ### Power and reset -/

theorem test_powerOn :
    (after (exec (.powerOn .low .high) { State.reset with pins := { State.reset.pins with supply := false } })).phase
      = .locking .power ∧
    (after (exec (.powerOn .low .high)
      { State.reset with pins := { State.reset.pins with supply := false, resetN := .low } })).phase = .reset := by decide

theorem test_resetNRelease :
    (after (exec (.resetNRelease .high .high) { State.reset with pins := { State.reset.pins with resetN := .low } })).link.baud
      = .b3000000 ∧
    (after (exec (.resetNRelease .high .high)
      { State.reset with pins := { State.reset.pins with resetN := .low, supply := false } })).phase = .reset := by decide

theorem test_resetNAssert_and_supplyLoss :
    State.reset.pins.resetN = .high ∧ (after (exec .resetNAssert State.reset)).phase = .reset ∧
    State.reset.pins.supply = true ∧ (after (exec .supplyLoss (committing 9 State.reset))).store.commit = .idle := by decide

theorem test_synthesizerLock :
    (after (exec .synthesizerLock { committing 9 State.reset with phase := .locking .pin })).arb.events = [.ready .pin] := by
  decide

/-- The restart is ready where FRAME_SENT has ended the RESTART reply at this tick, and keeps the counters and the cache. -/
theorem test_restartTakesEffect :
    let s := { committing 9 State.reset with
      flags := { State.reset.flags with restartDue := true }
      link := { State.reset.link with counters := ⟨5, 0, 0, 0, 0, 0⟩ } }
    restartReady s = true ∧ (after (exec .restartTakesEffect s)).link.counters.framesOk = 5 ∧
      (after (exec .restartTakesEffect s)).store = Store.reset := by decide

/-- The restart tick at tick time 9,000 with a character at its stop bit: a pulse, a byte in KIND, and the last byte of a frame. -/
theorem test_restart_tick :
    let u := later 9000 { State.reset with flags := { State.reset.flags with restartDue := true } }
    let s := parsing ⟨.kind, 1, 0, 0, [], 0, 0⟩ u
    let last := parsing ⟨.crcLo, 0, 0x10, 7, [], 0x1234, 0x12⟩ u
    restartReady s = true ∧ ByteNow (9000 + byteStart) s ∧ s.link.parser.state ≠ .crcLo ∧ s.flags.oldParser = none ∧
      (after (exec (.goodByte 0xA5) s)).link.parser.state = .len ∧ (after (exec (.goodByte 0xA5) s)).link.gap = some 0 ∧
      after (exec (.goodByte 0x10) s) = s ∧ (after (exec (.noiseByte 0x10) s)).link.counters = ⟨0, 0, 0, 1, 0, 0⟩ ∧
      (after (exec .stopBitError s)).link.receiver = .waitingHigh ∧
      ByteNow (9000 + byteStart) last ∧
      (after (exec (.receiveFrame 0x34) last)).engine.requests = [⟨0x10, 7, [], 0x1234⟩] ∧
      (after (exec (.receiveFrame 0x35) last)).link.counters = ⟨0, 1, 0, 0, 0, 0⟩ ∧
      (after (exec .restartTakesEffect last)).flags.oldParser = some last.link.parser ∧
      (after (exec (.receiveFrame 0x34) (after (exec .restartTakesEffect last)))).link.counters = ⟨1, 0, 0, 0, 0, 0⟩ ∧
      (after (exec (.referencePulse ⟨false, 0⟩) { s with tracker := (tracking .locked 16 s).tracker })).tracker = Tracker.reset ∧
      (after (exec (.referencePulse ⟨true, 0⟩) s)).pins.frameInEdge = true := by decide

/-! ### Boundaries -/

/-- A state at whose present tick the frame reaches its planned length. -/
def ending (s : State) : State := { atTick 100000 s with flags := { s.flags with boundaryDue := true } }

theorem test_nominalBoundary : (ending State.reset).phase = .running ∧ (ending State.reset).flags.boundaryDue = true ∧
    (after (exec (.nominalBoundary 0) (ending State.reset))).tb =
      ⟨100000, 1, 0, 100000, 100000, 100000, some ⟨0, 0, 100000⟩, none, 8, true⟩ := by decide

/-- The swap at its target, and a frame later no swap; the tracker's events at a CUT, and at an EARLY one that changes the length. -/
theorem test_boundary_swaps :
    (after (exec (.nominalBoundary 0) (ending (committing 1 State.reset)))).store.active = .b ∧
    (after (exec (.nominalBoundary 0) (ending (committing 2 State.reset)))).store.active = .a ∧
    (after (exec (.nominalBoundary 0) (ending (committing 1 State.reset)))).flags.handed.store
      = [.committed 1 .b 100000 .nominal] ∧
    (boundary .cut 40 0 (tracking .acquire 16 State.reset)).flags.handed.tracker
      = [.realigned 1 0 40 0, .trackerState .acquire .locked .realign 1] ∧
    (boundary .early 40 0 (tracking .holdover 16 (committing 1
      { State.reset with store := { State.reset.store with bankB := ⟨100001, []⟩ } }))).flags.handed.tracker
      = [.trackerState .holdover .locked .pulse 1, .trackerState .locked .acquire .length 1] := by decide

/-- The four rows of R9's table; the present tick before its boundary, and before a pulse that is early and one that is late. -/
theorem test_stamps :
    let tb := { Timebase.reset with frame := 5, start := 100, prev := some ⟨4, 40, 60⟩ }
    let early := atTick 99990 (tracking .locked 16 { State.reset with flags := { State.reset.flags with edgeNow := true } })
    let late := atTick 9 (tracking .locked 16 { State.reset with flags := { State.reset.flags with edgeNow := true } })
    stampOf tb 100 = (5, 0) ∧ stampOf tb 99 = (4, 59) ∧ stampOf tb 40 = (4, 0) ∧ stampOf tb 39 = (4, 0) ∧
      stampOf { tb with prev := none } 99 = (5, 0) ∧ presentStamp State.reset = (0, 0) ∧
      presentStamp (ending State.reset) = (1, 0) ∧ restartReady early = false ∧ early.flags.boundaryDue = false ∧
      presentStamp early = (1, 0) ∧ (after (exec (.referencePulse ⟨false, 0⟩) early)).tb.frame = 1 ∧
      presentStamp late = (0, 9) ∧ (after (exec (.referencePulse ⟨false, 0⟩) late)).tb.offset = 9 ∧
      edgeStamp early early.tb.tick = (1, 0) ∧ edgeStamp early 7 = (0, 7) := by decide

/-- An edge before a frame that is cut 20 ticks after it began: frame 0 where the qualification comes before the cut, offset 0 of
the frame that is cut where it comes after (log 29). -/
theorem test_edge_before_a_cut_frame :
    let s := { State.reset with
      tb := ⟨120, 1, 20, 100000, 100000, 100, some ⟨0, 0, 100⟩, none, 0, false⟩ }
    edgeStamp s 90 = (0, 90) ∧ edgeStamp (boundary .cut 20 0 s) 90 = (1, 0) ∧
      edgeStamp s 110 = (1, 10) ∧ edgeStamp (boundary .cut 20 0 s) 110 = (1, 10) := by decide

/-- The five states of the tracker at a NOMINAL boundary, without and with a pulse held; a change of length by a commit. -/
theorem test_tracker_at_nominal_boundary :
    let go := fun (s : State) => (after (exec (.nominalBoundary 0) (ending s))).tracker
    let held := fun (s : State) => { s with flags := { s.flags with pulseHeld := .held } }
    let longer := fun (s : State) =>
      committing 1 { s with store := { s.store with bankB := ⟨100001, []⟩ } }
    (go (tracking .holdover 16 State.reset)).holdover = 1 ∧
    (go (tracking .holdover 16
      { State.reset with tracker := { State.reset.tracker with holdover := 999 } })).state = .lost ∧
    (go (tracking .holdover 16
      { State.reset with tracker := { State.reset.tracker with holdover := 998 } })).state = .holdover ∧
    (after (exec (.nominalBoundary 0) (held (ending (tracking .holdover 16 State.reset))))).tracker.state = .locked ∧
    (after (exec (.nominalBoundary 0) (held (ending (tracking .locked 16 State.reset))))).tracker.corrected = true ∧
    (go (longer (tracking .locked 16 State.reset))).state = .acquire ∧
    (go (longer (tracking .acquire 16 State.reset))).candidate = none ∧
    (go (longer (tracking .lost 16 State.reset))).state = .lost ∧ (go State.reset).state = .free := by decide

/-! ### Reference pulses -/

/-- A pulse at P − W is early, one tick sooner it is a stray. -/
theorem test_earlyPulse :
    let s := atTick 99984 (tracking .locked 16 State.reset)
    PulseTakenNow s ∧ PulseTakenNow { s with flags := { s.flags with edgeNow := true, settled := true } } ∧ s.tracker.window < s.tb.offset ∧ s.tb.planned ≤ s.tb.offset + s.tracker.window ∧
      (after (exec (.referencePulse ⟨false, 0⟩) s)).tracker.lastCorrection = -16 ∧
      (after (exec (.referencePulse ⟨false, 0⟩) s)).tb.prev = some ⟨0, 0, 99984⟩ := by decide

/-- A pulse at offset W is late. -/
theorem test_latePulse :
    let s := atTick 16 (tracking .holdover 16 State.reset)
    PulseTakenNow s ∧ s.tb.offset ≤ s.tracker.window ∧ s.tracker.corrected = false ∧
      (after (exec (.referencePulse ⟨false, 0⟩) s)).tb.planned = 100016 ∧
      (after (exec (.referencePulse ⟨false, 0⟩) s)).tracker.state = .locked := by decide

/-- A pulse before the boundary of its tick is held, and a TRACK_CONFIG then takes it first. -/
theorem test_heldPulse :
    let s := ending (tracking .holdover 16 State.reset)
    let held := after (exec (.referencePulse ⟨false, 0⟩) s)
    let free := after (exec .trackConfig (asked .trackConfig [0, 0, 0, 2, 1, 0, 1] held))
    PulseTakenNow s ∧ s.flags.boundaryDue = true ∧ held.flags.pulseHeld = .held ∧ held.tracker = s.tracker ∧
      free.flags.handed.tracker.head? = some (.trackerState .holdover .locked .pulse 1) ∧ free.flags.pulseHeld = .applied ∧
      free.tracker.state = .free ∧ (after (exec (.nominalBoundary 0) free)).tracker.corrected = true := by decide

theorem test_strayPulse :
    let s := atTick 17 (tracking .locked 16 State.reset)
    let u := atTick 99983 (tracking .locked 16 State.reset)
    PulseTakenNow s ∧ PulseTakenNow u ∧ u.tb.offset + u.tracker.window < u.tb.planned ∧
      (after (exec (.referencePulse ⟨false, 0⟩) s)).tracker.strays = 1 ∧ (after (exec (.referencePulse ⟨false, 0⟩) u)).tracker.strays = 1 := by
  decide

/-- Pulses that wait for the next tick, in LOCAL mode, in LOST, and in ACQUIRE with no candidate, at a spacing of L − W and one tick below. -/
theorem test_pulse_outside_the_windows :
    let acq := fun (n : Nat) => later n (tracking .acquire 16
      { State.reset with tracker := { State.reset.tracker with candidate := some ⟨0, 1⟩ } })
    exec (.referencePulse ⟨false, 0⟩) { State.reset with phase := .reset } = .next { State.reset with phase := .reset } ∧
    ¬ PulseTakenNow { State.reset with flags := { State.reset.flags with pulseTaken := true } } ∧
    (after (exec (.referencePulse ⟨true, 0⟩) State.reset)).pins.frameInEdge = true ∧
    (after (exec (.referencePulse ⟨false, 0⟩) (ending (tracking .lost 16 State.reset)))).flags.handed.tracker
      = [.trackerState .lost .acquire .pulse 1] ∧
    PulseTakenNow (acq 99984) ∧ (acq 99984).tracker.state = .acquire ∧
    (after (exec (.referencePulse ⟨false, 0⟩) State.reset)).tracker = State.reset.tracker ∧
    (after (exec (.referencePulse ⟨false, 0⟩) (tracking .lost 16 State.reset))).tracker.candidate = some ⟨0, 1⟩ ∧
    (after (exec (.referencePulse ⟨false, 0⟩) (tracking .acquire 16 State.reset))).tracker.candidate = some ⟨0, 1⟩ ∧
    (after (exec (.referencePulse ⟨false, 0⟩) (acq 99984))).tracker.candidate = some ⟨99984, 2⟩ ∧
    (after (exec (.referencePulse ⟨false, 0⟩) (acq 100016))).tracker.candidate = some ⟨100016, 2⟩ ∧
    (after (exec (.referencePulse ⟨false, 0⟩) (acq 99983))).tracker.candidate = some ⟨99983, 1⟩ := by
  refine ⟨rfl, ?_⟩
  decide

/-- The realignment inside a frame, at the tick of its planned length, and after the NOMINAL boundary of the tick. -/
theorem test_realignment :
    let run := fun (s : State) => later 100000 (tracking .acquire 16
      { s with tracker := { s.tracker with candidate := some ⟨0, 2⟩ } })
    let inside := run { State.reset with tb := { State.reset.tb with offset := 300 } }
    let atEnd := run { State.reset with
      tb := { State.reset.tb with offset := 99999 }, flags := { State.reset.flags with boundaryDue := true } }
    let started := run { State.reset with
      tb := { State.reset.tb with frame := 1, prev := some ⟨0, 0, 100000⟩ }
      flags := { State.reset.flags with handed := { Handed.empty with store := [.committed 1 .b 100000 .nominal] } } }
    PulseTakenNow inside ∧ inside.tracker.acqCount ≤ 3 ∧ inside.flags.boundaryDue = false ∧ inside.tb.offset ≠ 0 ∧
    (after (exec (.referencePulse ⟨false, 0⟩) inside)).tb.prev = some ⟨0, 0, 300⟩ ∧
    PulseTakenNow { atEnd with flags := { atEnd.flags with settled := false } } ∧
    (after (exec (.referencePulse ⟨false, 0⟩) atEnd)).tb.prev = some ⟨0, 0, 100000⟩ ∧
    PulseTakenNow started ∧ started.tb.offset = 0 ∧
    (after (exec (.referencePulse ⟨false, 0⟩) started)).tb = started.tb ∧
    (after (exec (.referencePulse ⟨false, 0⟩) started)).flags.handed.store = [.committed 1 .b 100000 .cut] ∧
    (after (exec (.referencePulse ⟨false, 0⟩) started)).tracker.state = .locked := by decide

theorem test_miss :
    let s := atTick 17 (tracking .locked 16 State.reset)
    let u := { s with tracker := { s.tracker with misses := 1 } }
    s.phase = .running ∧ s.tb.offset = s.tracker.window + 1 ∧ s.tracker.corrected = false ∧
      (after (exec .miss s)).tracker.state = .locked ∧ (after (exec .miss s)).tracker.misses = 1 ∧
      (after (exec .miss u)).tracker.state = .holdover := by decide

/-! ### Actions -/

theorem test_frameOutEnd_and_pulseEnd :
    let s := { State.reset with tb := { State.reset.tb with outTimer := 0 } }
    let u := { State.reset with lanes := State.reset.lanes.set 15 ⟨.scheduled, .high, some 0, .low, .low⟩ }
    s.tb.frameOut = true ∧ frameOutPin (after (exec .frameOutEnd s)) = .low ∧
      (u.lanes.get 15).pulseEnd = some u.tb.tick ∧ ((after (exec (.pulseEnd 15) u)).lanes.get 15).pulseEnd = none := by decide

/-- Two entries at the offset and one after it: both are passed, the selected one fires and raises its event; a firing of an
EARLY boundary that waits comes first. -/
theorem test_entryFire :
    let s := { atTick 40 State.reset with
      store := { State.reset.store with bankA :=
        ⟨100000, [⟨40, 0, .pulse, some 5, 1, 0, true, some 3⟩, ⟨40, 1, .set, none, 2, 1, false, none⟩, setEntry 41 0]⟩ } }
    unreached s = [⟨40, 0, .pulse, some 5, 1, 0, true, some 3⟩, ⟨40, 1, .set, none, 2, 1, false, none⟩] ++ [setEntry 41 0] ∧
      (after (exec .entryFire s)).exec.cursor = 2 ∧ ((after (exec .entryFire s)).lanes.get 0).pulseEnd = some 45 ∧
      ((after (exec .entryFire s)).lanes.get 1).level = .low ∧
      (after (exec .entryFire s)).flags.handed.executor = [.action 0 40 0 .pulse (some 3) false .a] ∧
      ((after (exec .entryFire { s with flags := { s.flags with waiting := [firing (setEntry 60 7)] } })).lanes.get 7).level
        = .high ∧
      (after (exec .entryFire { s with flags := { s.flags with waiting := [firing (setEntry 60 7)] } })).exec.cursor = 0 := by
  decide

theorem test_firing :
    let v := State.reset.lanes
    ((fireAll 9 [firing (setEntry 0 3)] v).get 3).level = .high ∧
    ((fireAll 9 [firing (setEntry 0 3), firing ⟨0, 3, .clear, none, 1, 0, false, none⟩] v).get 3) = v.get 3 ∧
    ((fireAll 9 [firing ⟨0, 3, .toggle, none, 1, 0, false, none⟩] v).get 3).level = .high ∧
    ((fireAll 9 [firing ⟨0, 3, .pulse, some 65535, 1, 0, false, none⟩] v).get 3).pulseEnd = some 65544 := by decide

/-- The entry not reached at offset 50 is squeezed by an early boundary, at once or later, and discarded by a cut. -/
theorem test_boundary_squeezes_or_discards :
    let s := { atTick 40 State.reset with store := { State.reset.store with bankA := ⟨100000, [setEntry 50 2]⟩ } }
    ((boundary .early 40 1 s).lanes.get 2).level = .high ∧ ((boundary .early 40 0 s).lanes.get 2).level = .low ∧
      (boundary .early 40 0 s).flags.waiting = [⟨setEntry 50 2, 0, .a, true⟩] ∧
      ((boundary .cut 40 0 s).lanes.get 2).level = .low ∧
      (boundary .cut 40 0 s).exec.discard = 1 ∧ (boundary .nominal 40 0 s).exec.discard = 0 := by decide

/-- An entry at offset 0 fires with its boundary, or waits for ENTRY_FIRE at the same tick. -/
theorem test_firing_waits :
    let s := ending { State.reset with store := { State.reset.store with bankA := ⟨100000, [setEntry 0 2]⟩ } }
    let t := after (exec (.nominalBoundary 0) s)
    ((after (exec (.nominalBoundary 1) s)).lanes.get 2).level = .high ∧
      (t.lanes.get 2).level = .low ∧ t.exec.cursor = 1 ∧ entryFireDue t = true ∧
      ((after (exec .entryFire t)).lanes.get 2).level = .high ∧ (after (exec .entryFire t)).flags.waiting = [] := by decide

/-! ### The safe state -/

/-- SAFE_N goes low, comes back, and completes its 100 ticks. -/
theorem test_safeN :
    let s := { State.reset with flags := { State.reset.flags with safeSampled := false } }
    let c := { s with safe := { s.safe with candidate := some ⟨.low, 0⟩ }, pins := { s.pins with safeN := .low } }
    (after (exec (.safeNChange .low) s)).safe.candidate = some ⟨.low, 0⟩ ∧
    (after (exec (.safeNChange .high) c)).safe.candidate = none ∧
    (after (exec (.safeNChange .low) c)).safe.candidate = some ⟨.low, 0⟩ ∧
    safeDue (later 99 c) = false ∧ safeDue (later 100 c) = true ∧
    (after (exec .safeNQualified (later 100 c))).safe = ⟨some .input, .low, none⟩ ∧
    (after (exec .safeNQualified { later 100 c with safe := ⟨some .request, .high, some ⟨.low, 0⟩⟩ })).safe
      = ⟨some .request, .low, none⟩ ∧
    (after (exec .safeNQualified
      { later 100 s with safe := ⟨some .request, .low, some ⟨.high, 0⟩⟩ })).safe = ⟨some .request, .high, none⟩ := by decide

theorem test_safe_requests :
    let set := { State.reset with safe := ⟨some .request, .high, none⟩ }
    let low := { State.reset with safe := ⟨some .input, .low, none⟩ }
    Fresh .safeEnter (ask .safeEnter []) (asked .safeEnter [] State.reset) ∧
    Fresh .safeRelease (ask .safeRelease []) (asked .safeRelease [] set) ∧
    answers .safeEnter .safeEnter [] State.reset = [[0, 0]] ∧ answers .safeEnter .safeEnter [] set = [[0, 1]] ∧
    answers .safeRelease .safeRelease [] State.reset = [[0]] ∧ answers .safeRelease .safeRelease [] set = [[0]] ∧
    answers .safeRelease .safeRelease [] low = [[0x0F]] := by decide

theorem test_pin_levels :
    let pin := fun (m : LaneMode) (v : SafeLevel) (latch : Option SafeCause) =>
      outPin { State.reset with
        lanes := State.reset.lanes.set 4 ⟨m, .high, none, v, .high⟩, safe := ⟨latch, .high, none⟩ } 4
    pin .off .low (some .input) = .highImpedance ∧ pin .scheduled .low none = .high ∧ pin .forcedLow .low none = .low ∧
      pin .forcedHigh .low none = .high ∧ pin .forcedHigh .low (some .input) = .low ∧ pin .forcedLow .high (some .input) = .high ∧
      pin .scheduled .hold (some .request) = .high ∧ pin .scheduled .off (some .request) = .highImpedance := by decide

/-! ### Capture -/

/-- A state in which lane 9 captures both edges, with a candidate from tick 0, and nothing is sampled at this tick. -/
def capturing (d : Delivery) (gate : Option Gate) (s : State) : State :=
  { s with
    capture := { s.capture with
      lanes := s.capture.lanes.set 9 ⟨.both, 20, gate, d, .low, some ⟨.high, 0⟩, LatchRecord.reset⟩ }
    pins := { s.pins with inputs := s.pins.inputs.set 9 .high }
    flags := { s.flags with sampled := 0 } }

theorem test_inputLevelChange :
    let s := { State.reset with flags := { State.reset.flags with sampled := 0 } }
    let c := capturing .queue none State.reset
    s.flags.sampled.getLsbD 9 = false ∧
    ((after (exec (.inputLevelChange 9 .high) s)).capture.lanes.get 9).candidate = some ⟨.high, 0⟩ ∧
    ((after (exec (.inputLevelChange 9 .low) c)).capture.lanes.get 9).candidate = none ∧
    ((after (exec (.inputLevelChange 9 .high) c)).capture.lanes.get 9).candidate = some ⟨.high, 0⟩ ∧
    ((after (exec (.inputLevelChange 9 .high) State.reset)).capture.lanes.get 9).candidate = none := by decide

set_option maxRecDepth 8000 in
/-- An edge of lane 9 completes its 20 ticks: stored, dropped at a full queue, latched, or kept out by the gate. -/
theorem test_edgeQualified :
    let s := atTick 20 (capturing .queue none State.reset)
    let full := { s with cq := { s.cq with records := List.replicate 512 ⟨0, .rise, 0, 0, 0, .free⟩ } }
    let shut := atTick 20 (capturing .queue (some ⟨1, 0⟩) State.reset)
    let latch := atTick 20 (capturing .latch (some ⟨0, 1⟩) State.reset)
    edgesDue (atTick 19 (capturing .queue none State.reset)) = false ∧ edgesDue s = true ∧ s.phase = .running ∧
      laneDue s 9 = true ∧ (∀ other, other ≠ 9 → laneDue s other = false) ∧ (∀ other, inputChangeDue s other = false) ∧
      (after (exec (.edgeQualified 0) s)).cq.records = [⟨9, .rise, 0, 0, 0, .free⟩] ∧
      (after (exec (.edgeQualified 0) shut)).cq.records = [] ∧
      ((after (exec (.edgeQualified 0) latch)).capture.lanes.get 9).latch = ⟨true, .rise, 0, 0, .free, false⟩ ∧
      (after (exec (.edgeQualified 0) full)).cq.lost = 1 := by decide

/-- Lanes 3 and 9 qualify together before a nearly full queue: the lower lane's record is stored and the higher one's dropped. -/
def pair : State :=
  let s := capturing .queue none State.reset
  atTick 20
    { s with
      capture := { s.capture with
        lanes := s.capture.lanes.set 3 ⟨.both, 20, none, .queue, .low, some ⟨.high, 0⟩, LatchRecord.reset⟩, seq := 0xFFFF }
      pins := { s.pins with inputs := s.pins.inputs.set 3 .high }
      cq := ⟨List.replicate 511 ⟨0, .rise, 0, 0, 0, .free⟩, 0, 7⟩ }

set_option maxRecDepth 8000 in
theorem test_group :
    edgesDue pair = true ∧ pair.cq.lost ≤ 65535 ∧
      groupRecords 0 (sampleRest pair) = [⟨3, .rise, 0xFFFF, 0, 0, .free⟩, ⟨9, .rise, 0, 0, 0, .free⟩] ∧
      (after (exec (.edgeQualified 0) pair)).cq.records.getLast? = some ⟨3, .rise, 0xFFFF, 0, 0, .free⟩ ∧
      (after (exec (.edgeQualified 0) pair)).cq.records.length = 512 ∧ (after (exec (.edgeQualified 0) pair)).cq.lost = 8 ∧
      (after (exec (.edgeQualified 0) pair)).capture.seq = 1 := by decide

/-! ### The link -/

/-- A receiver with the parser in a state, a frame of length 1 in progress. -/
def inState (p : ParserState) : State := parsing ⟨p, 1, 0x10, 7, [], 0xFFFF, 0⟩ State.reset

theorem test_goodByte :
    let go := fun (p : ParserState) (b : Byte) => (after (exec (.goodByte b) (inState p))).link.parser.state
    ByteNow byteStart (inState .hunt) ∧ (inState .hunt).flags.oldParser = none ∧ restartReady (inState .hunt) = false ∧ go .hunt 0xA5 = .len ∧ go .len 240 = .kind ∧
      go .kind 0x10 = .tag ∧ go .tag 7 = .body ∧ go .body 1 = .crcHi ∧ go .crcHi 1 = .crcLo := by decide

theorem test_link_faults :
    let counters := fun (c : Instr) (p : ParserState) => (after (exec c (inState p))).link.counters
    counters (.noiseByte 0xA4) .hunt = ⟨0, 0, 0, 1, 0, 0⟩ ∧ counters .stopBitError .body = ⟨0, 0, 0, 1, 0, 0⟩ ∧
      (after (exec .stopBitError (inState .body))).link.receiver = .waitingHigh ∧
      counters (.lengthError 241) .len = ⟨0, 0, 1, 0, 0, 0⟩ ∧ counters (.lengthError 240) .len = Counters.zero ∧
      counters (.noiseByte 0xA5) .hunt = Counters.zero ∧ ¬ ByteNow byteStart State.reset ∧
      itemNow (later 1 (inState .hunt)) = false := by decide

/-- At 3,000,000 baud 64 bit times are 2,133.3 ticks. -/
theorem test_frameTimeout :
    let s := { inState .body with
      link := { (inState .body).link with baud := .b3000000, gap := some 0, character := .idle } }
    s.link.character = .idle ∧ 64 * 100000000 < ((later 2134 s).tb.tick - 0).toNat * s.link.baud.rate ∧
      (after (exec .frameTimeout (later 2134 s))).link.counters.timeouts = 1 ∧
      after (exec .frameTimeout (later 2133 s)) = later 2133 s := by decide

/-- The last byte of a frame: CRC unequal; equal with places free, with the request queue full, and with the refusal slot full
too; and while restarting. -/
theorem test_receiveFrame :
    let s := parsing ⟨.crcLo, 0, 0x10, 7, [], 0x1234, 0x12⟩ State.reset
    let full := { s with engine := { s.engine with requests := List.replicate 8 (ask .identify []) } }
    let busy := { full with engine := { full.engine with refusal := some ⟨0x50, 7, [1], false⟩ } }
    ByteNow byteStart s ∧ s.link.parser.crcHigh ++ (0x34 : Byte) = s.link.parser.crc ∧ s.flags.oldParser = none ∧
      (after (exec (.receiveFrame 0x35) s)).link.counters = ⟨0, 1, 0, 0, 0, 0⟩ ∧
      (after (exec (.receiveFrame 0x34) s)).engine.requests = [⟨0x10, 7, [], 0x1234⟩] ∧
      (after (exec (.receiveFrame 0x34) full)).engine.refusal = some ⟨0x50, 7, [1], false⟩ ∧
      (after (exec (.receiveFrame 0x34) busy)).link.counters = ⟨1, 0, 0, 0, 0, 1⟩ ∧
      (after (exec (.receiveFrame 0x34) { s with engine := { s.engine with state := .restarting } })).engine.requests = [] := by
  decide

/-- RXD is not sampled at the tick of lock; a start bit inside a stop bit, and a false start away from its middle, are none. -/
theorem test_receiver :
    let s := { State.reset with flags := { State.reset.flags with rxdSampled := false } }
    let armed := { s with link := { s.link with receiver := .armed } }
    let stop := { armed with link := { armed.link with character := .stopping 0 } }
    after (exec .receiverArmed State.reset) = State.reset ∧
    (after (exec .receiverArmed s)).link.receiver = .armed ∧
    (after (exec .startBit armed)).link.character = .reading 0 ∧
    stopBitOver .b115200 8509 = false ∧ stopBitOver .b115200 8510 = true ∧
    stopBitOver .b1000000 979 = false ∧ stopBitOver .b1000000 980 = true ∧
    (after (exec .startBit (later 8510 stop))).link.character = .reading 8510 ∧
    (after (exec .startBit (later 8509 stop))).link.character = .stopping 0 ∧
    (after (exec .falseStart (reading 0 s))).link.character = .idle ∧
    (after (exec .falseStart (reading 1 s))).link.character = (reading 1 s).link.character := by decide

set_option maxRecDepth 8000 in
/-- The frame of IDENTIFY with tag 7 read back by the parser up to its last byte. -/
theorem test_frame_read_back :
    (([] : List Byte).length ≤ 240) ∧ (frameOf 0x01 7 []).length = 6 ∧
    (((frameOf 0x01 7 []).take 5).foldl (fun q x => q.bind fun q => q.advance x) (some Parser.hunt)).map
      (fun p => (p.state, p.kind, p.tag)) = some (.crcLo, 0x01, 7) := by decide

/-- The four sources in their order of priority. -/
theorem test_transmitStart :
    let cap := { State.reset with
      arb := ⟨[], [], 0⟩, cq := ⟨List.replicate 3 ⟨0, .rise, 0, 0, 0, .free⟩, 2, 5⟩ }
    let event := { cap with arb := ⟨[], [.ready .power], 4⟩ }
    let reply := { event with arb := ⟨[⟨0x41, 7, [0], false⟩], [.ready .power], 4⟩ }
    let refusal := { reply with engine := { reply.engine with refusal := some ⟨0x50, 7, [1], false⟩ } }
    cap.link.transmitter = .idle ∧ restartReady cap = false ∧
      (after (exec .transmitStart cap)).cq.records.length = 1 ∧ (after (exec .transmitStart cap)).cq.lost = 0 ∧
      (after (exec .transmitStart event)).arb = ⟨[], [], 0⟩ ∧ (after (exec .transmitStart reply)).arb.replies = [] ∧
      (after (exec .transmitStart refusal)).engine.refusal = none := by decide

/-- The byte 0x01 after one byte at 1,000,000 baud: high before it, low in its start bit, then its lowest bit, the next, its stop
bit, and high when it is over. -/
theorem test_txd :
    let s := sending [0xA5, 0x01] false { State.reset with link := { State.reset.link with baud := .b1000000 } }
    let level := fun (n : Nat) => txdPin (later n s)
    txdPin State.reset = .high ∧ bitTick .b1000000 10 = 1000 ∧ bitTick .b1000000 11 = 1100 ∧ level 999 = .high ∧
      level 1000 = .low ∧ level 1099 = .low ∧ level 1100 = .high ∧ level 1200 = .low ∧ level 1899 = .low ∧
      level 1900 = .high ∧ level 2000 = .high := by decide

/-- Eight bytes at 115,200 baud end 69,444 ticks after they began. -/
theorem test_frameSent :
    let s := sending [0, 0, 0, 0, 0, 0, 0, 0] true State.reset
    sendEnded (later 69443 s) = false ∧ bitTick s.link.baud 80 ≤ 69444 ∧
      (after (exec .frameSent (later 69444 s))).link.transmitter = .idle ∧
      restartReady (after (exec .frameSent (later 69444 s))) = true := by decide

/-! ### The request engine -/

/-- Two due replies with one place free; the RESTART reply after them. -/
theorem test_owed_replies :
    let d : DueReply := ⟨⟨⟨7, 0x04, 4, 0⟩, 9⟩, .ok, 9⟩
    let s := { State.reset with
      engine := { State.reset.engine with due := [d, d], restartReply := some ⟨0x43, 7, [0], false⟩ }
      arb := ⟨List.replicate 3 ⟨0x50, 0, [0], false⟩, [], 0⟩ }
    let u := { s with engine := { s.engine with due := [] } }
    (after (exec .dueReplyPlace s)).engine.due = [d] ∧
      ((after (exec .dueReplyPlace s)).arb.replies.getLast?.map Reply.body) = some [0, 0, 0, 0, 9, 0, 0, 0, 9] ∧
      (after (exec .dueReplyPlace s)).engine.cache.map (fun c => c.key.tag) = [7] ∧
      u.arb.replies.length < 4 ∧ (after (exec .restartReplyPlace u)).engine.restartReply = none := by decide

/-- A due reply that takes the last place ends the dispatch owed to the tick: once the arbiter has freed the place, the dispatch
may be made at the tick or left to the next. One that leaves a place does not. -/
theorem test_due_reply_takes_the_place :
    let d : DueReply := ⟨⟨⟨7, 0x04, 4, 0⟩, 9⟩, .ok, 9⟩
    let busy := fun n => { asked .identify [] State.reset with arb := ⟨List.replicate n ⟨0x50, 0, [0], false⟩, [], 0⟩ }
    let s := fun n =>
      { busy n with
        engine := { (busy n).engine with due := [d] }
        flags := { (busy n).flags with dispatchOwed := true } }
    let full := after (exec .dueReplyPlace (s 3))
    let freed := after (exec .transmitStart full)
    full.flags.dispatchOwed = false ∧ dispatchable freed = some (ask .identify []) ∧
      OwnAct.event .identify ∈ elective freed ∧ OwnAct.event .identify ∉ mandatory freed ∧
      (after (exec .dueReplyPlace (s 2))).flags.dispatchOwed = true := by decide

/-- A RESTART waits for an empty reply queue; another request for a place in it; some to a later moment of their tick, but not one
that reaches no block: a wrong length, a retry. -/
theorem test_dispatch_conditions :
    let s := { asked .restart [] State.reset with arb := ⟨[⟨0x50, 0, [0], false⟩], [], 0⟩ }
    let u := { asked .identify [] State.reset with arb := ⟨List.replicate 4 ⟨0x50, 0, [0], false⟩, [], 0⟩ }
    let due := ending (asked .frameRenumber [1, 2, 3, 4] State.reset)
    let used := ending (asked .laneStatus [2] State.reset)
    let again := { used with
      engine := { used.engine with cache := [⟨(ask .laneStatus [2]).key, ⟨0x74, 7, [4], false⟩⟩] } }
    dispatchable (ending (asked .laneStatus [] State.reset)) = some (ask .laneStatus []) ∧
    dispatchable again = some (ask .laneStatus [2]) ∧
    (after (exec .laneStatus again)).arb.replies = [⟨0x74, 7, [4], false⟩] ∧
    dispatchable due = some (ask .frameRenumber [1, 2, 3, 4]) ∧
    dispatchable { due with flags := { due.flags with stamped := true } } = none ∧ dispatchable used = none ∧
    dispatchable (asked .restart [] State.reset) = some (ask .restart []) ∧ dispatchable s = none ∧ dispatchable u = none := by
  decide

theorem test_generic_refusals :
    let odd : Request := ⟨0x05, 7, [], 0⟩
    let s := { State.reset with engine := { State.reset.engine with requests := [odd] } }
    dispatchable s = some odd ∧ cachedReply odd s.engine = none ∧ absorbed odd s.engine = false ∧ ReqKind.ofCode 0x05 = none ∧
      (after (exec .unknownKind s)).arb.replies = [⟨0x7F, 7, [0x02, 0x05], false⟩] ∧
      lanesQuiet (asked .laneStatus [] State.reset) = true ∧
      answers .laneStatus .laneStatus [] State.reset = [[0x03]] ∧ answers .identify .identify [1] State.reset = [[0x03]] := by
  decide

/-- A request sent again is answered from the cache; a parked SYNC_WAIT sent again is absorbed. -/
theorem test_retries :
    let s := after (exec .safeEnter (asked .safeEnter [] State.reset))
    let again := { asked .safeEnter [] s with flags := { s.flags with dispatched := false } }
    let w := after (exec .syncWait (asked .syncWait [0, 0, 0, 9] State.reset))
    let waits := { asked .syncWait [0, 0, 0, 9] w with flags := { w.flags with dispatched := false } }
    dispatchable again = some (ask .safeEnter []) ∧ (ask .safeEnter []).command = .safeEnter ∧
      (after (exec .safeEnter again)).arb.replies.map Reply.body = [[0, 0], [0, 0]] ∧
      (ask .safeEnter []).tag ≠ 0 ∧ CacheTags again ∧ again.engine.cache.length = 1 ∧
      (∀ c ∈ again.engine.cache, Matches (ask .safeEnter []) c.key) ∧
      dispatchable waits = some (ask .syncWait [0, 0, 0, 9]) ∧ (∀ c ∈ waits.engine.cache, ¬ Matches (ask .syncWait [0, 0, 0, 9]) c.key) ∧
      waits.engine.waits.length = 1 ∧ (∀ w ∈ waits.engine.waits, Matches (ask .syncWait [0, 0, 0, 9]) w.key) ∧
      (after (exec .syncWait waits)).engine.waits = w.engine.waits ∧ (after (exec .syncWait waits)).arb.replies = [] := by decide

/-- The reply cache: a tag of 0, the same tag, room, and the oldest of 8 removed. -/
theorem test_remember :
    let e := fun (tag : Byte) => (⟨⟨tag, 1, 0, 0⟩, ⟨0x41, tag, [0], false⟩⟩ : CacheEntry)
    let tags := fun (tag : Byte) (c : List CacheEntry) => (remember (e tag).key (e tag).reply c).map fun c => c.key.tag
    let eight := [e 1, e 2, e 3, e 4, e 5, e 6, e 7, e 8]
    tags 0 [e 1] = [1] ∧ tags 1 [e 1, e 2] = [2, 1] ∧ tags 3 [e 1, e 2] = [1, 2, 3] ∧ tags 9 eight = [2, 3, 4, 5, 6, 7, 8, 9] ∧
      tags 1 eight = [2, 3, 4, 5, 6, 7, 8, 1] := by decide

theorem test_reads :
    Fresh .identify (ask .identify []) (asked .identify [] State.reset) ∧
    Fresh .timeRead (ask .timeRead []) (asked .timeRead [] State.reset) ∧
    Fresh .captureStatus (ask .captureStatus []) (asked .captureStatus [] State.reset) ∧
    answers .identify .identify [] State.reset = [[0, 0x41, 0x60, 1, 16, 16, 1, 0, 2, 0, 8, 8, 4, 16]] ∧
    answers .timeRead .timeRead [] (committing 9 State.reset)
      = [[0, 0, 0, 0, 0, 0, 0, 0, 0, 0, 0, 0, 1, 0, 0, 0, 9, 0, 0, 0, 0, 0]] ∧
    answers .captureStatus .captureStatus [] State.reset = [[0, 0, 0, 0, 0, 0, 0, 0, 0]] := by decide

/-- The two replies of R17's own case: frame 1 at offset 0 with the commit PENDING and bank A active, or IDLE and bank B; before
an early pulse at 99,990 the offset is 99,989. -/
theorem test_read_on_boundary_tick :
    let s := committing 1 State.reset
    let t := boundary .nominal 100000 0 s
    let early := atTick 99990 (tracking .locked 16 { State.reset with flags := { State.reset.flags with edgeNow := true } })
    State.reset.flags.readBefore = none ∧ t.flags.readBefore = some (viewAt 99999 s) ∧
    Fresh .timeRead (ask .timeRead []) (asked .timeRead [] t) ∧ (standing early).offset = 99989 ∧
    mixViews 0 (viewAt 99999 s) (readNow t) = ⟨1, 0, none, .free, .b, .idle⟩ ∧
    mixViews 4 (viewAt 99999 s) (readNow t) = ⟨1, 0, none, .free, .a, .pending 1⟩ := by decide

theorem test_counters :
    let s := { State.reset with
      link := { State.reset.link with counters := ⟨1, 2, 3, 4, 5, 6⟩ }
      tracker := { State.reset.tracker with strays := 2, lastCorrection := -1 } }
    Fresh .linkStats (ask .linkStats [1]) (asked .linkStats [1] s) ∧
    Fresh .trackStatus (ask .trackStatus [1]) (asked .trackStatus [1] s) ∧
    answers .linkStats .linkStats [0] s = [[0, 0, 1, 0, 2, 0, 3, 0, 4, 0, 5, 0, 6, 0]] ∧
    (after (exec .linkStats (asked .linkStats [1] s))).link.counters = Counters.zero ∧
    answers .linkStats .linkStats [2] s = [[4]] ∧
    answers .trackStatus .trackStatus [0] s = [[0, 0, 0, 0, 0, 0, 0, 0, 2, 0, 0, 0xFF, 0xFF]] ∧
    (after (exec .trackStatus (asked .trackStatus [1] s))).tracker.strays = 0 ∧
    answers .trackStatus .trackStatus [2] s = [[4]] := by decide

theorem test_restart :
    let s := { State.reset with engine := { State.reset.engine with waits := [⟨⟨3, 0x04, 4, 0⟩, 9⟩] } }
    Fresh .restart (ask .restart []) (asked .restart [] s) ∧
    (after (exec .restart (asked .restart [] s))).engine.state = .restarting ∧
    (after (exec .restart (asked .restart [] s))).engine.due = [⟨⟨⟨3, 0x04, 4, 0⟩, 9⟩, .aborted, 0⟩] := by decide

/-- Targets at distance 1, 65,535, 65,536, 2^31 and 0; and a fifth wait. -/
theorem test_syncWait :
    let go := fun (b : List Byte) (s : State) => (after (exec .syncWait (asked .syncWait b s)))
    let four := { State.reset with engine := { State.reset.engine with waits := List.replicate 4 ⟨⟨3, 0x04, 4, 0⟩, 9⟩ } }
    Fresh .syncWait (ask .syncWait [0, 0, 0, 1]) (asked .syncWait [0, 0, 0, 1] State.reset) ∧
    (go [0, 0, 0, 1] State.reset).engine.waits = [⟨⟨7, 0x04, 4, 0x1234⟩, 1⟩] ∧
    ((go [0, 0, 0, 9] { four with engine := { four.engine with
        waits := [⟨⟨3, 0x04, 4, 0⟩, 9⟩, ⟨⟨3, 0x04, 4, 0⟩, 10⟩] } }).engine.waits.map fun w => w.key.tag) = [3, 7, 3] ∧
    (go [0, 0, 0xFF, 0xFF] State.reset).engine.waits = [⟨⟨7, 0x04, 4, 0x1234⟩, 65535⟩] ∧
    answers .syncWait .syncWait [0, 1, 0, 0] State.reset = [[4, 0, 1, 0, 0, 0, 0, 0, 0]] ∧
    answers .syncWait .syncWait [0x80, 0, 0, 0] State.reset = [[0x0C, 0x80, 0, 0, 0, 0, 0, 0, 0]] ∧
    answers .syncWait .syncWait [0, 0, 0, 0] State.reset = [[0x0C, 0, 0, 0, 0, 0, 0, 0, 0]] ∧
    answers .syncWait .syncWait [0, 0, 0, 1] four = [[0x10, 0, 0, 0, 1, 0, 0, 0, 0]] := by decide

/-- Waits at a boundary to frame 1, and at one renumbered to 70,000. -/
theorem test_waits_fall_due :
    let w : Wait := ⟨⟨3, 0x04, 4, 0⟩, 1⟩
    let v : Wait := ⟨⟨4, 0x04, 4, 0⟩, 70001⟩
    let s := { State.reset with engine := { State.reset.engine with waits := [w, v] } }
    let u := { s with tb := { s.tb with renumber := some 70000 } }
    (boundary .nominal 100000 0 s).engine.due = [⟨w, .ok, 1⟩] ∧ (boundary .nominal 100000 0 s).engine.waits = [v] ∧
    (boundary .nominal 100000 0 u).engine.due = [⟨w, .renumbered, 70000⟩] ∧
    (boundary .nominal 100000 0 u).engine.waits = [v] ∧
    (boundary .nominal 100000 0 { u with engine := { u.engine with waits := [⟨v.key, 70005⟩, v] } }).engine.waits
      = [v, ⟨v.key, 70005⟩] := by decide

/-! ### Requests of the timebase, the tracker and the schedule store -/

theorem test_frameRenumber :
    Fresh .frameRenumber (ask .frameRenumber [1, 2, 3, 4]) (asked .frameRenumber [1, 2, 3, 4] State.reset) ∧
    (after (exec .frameRenumber (asked .frameRenumber [1, 2, 3, 4] State.reset))).tb.renumber = some 0x01020304 ∧
    answers .frameRenumber .frameRenumber [1, 2, 3, 4] (committing 9 State.reset) = [[9, 0, 0, 0, 0]] := by decide

/-- TRACK_CONFIG: EXTERNAL, the same mode, back to LOCAL, and each bound passed by one. -/
theorem test_trackConfig :
    let ext := tracking .locked 16 State.reset
    Fresh .trackConfig (ask .trackConfig [1, 3, 0xFF, 2, 1, 0, 1]) (asked .trackConfig [1, 3, 0xFF, 2, 1, 0, 1] State.reset) ∧
    ([1, 3, 0xFF, 2, 1, 0, 1] : List Byte)
      = [1] ++ be2 (1023 : BitVec 16).toNat ++ [2, 1] ++ be2 (1 : BitVec 16).toNat ∧
    answers .trackConfig .trackConfig [1, 3, 0xFF, 2, 1, 0, 1] State.reset = [[0, 1, 1]] ∧
    answers .trackConfig .trackConfig [1, 3, 0xFF, 15, 15, 0, 1] ext = [[0, 1, 2]] ∧
    answers .trackConfig .trackConfig [0, 0, 0, 2, 1, 0, 1] ext = [[0, 0, 0]] ∧
    answers .trackConfig .trackConfig [1, 4, 0, 2, 1, 0, 1] State.reset = [[4, 0, 0]] ∧
    answers .trackConfig .trackConfig [1, 0, 0, 1, 1, 0, 1] State.reset = [[4, 0, 0]] ∧
    answers .trackConfig .trackConfig [1, 0, 0, 2, 16, 0, 1] State.reset = [[4, 0, 0]] ∧
    answers .trackConfig .trackConfig [1, 0, 0, 2, 1, 0, 0] State.reset = [[4, 0, 0]] ∧
    answers .trackConfig .trackConfig [2, 0, 0, 2, 1, 0, 1] State.reset = [[4, 0, 0]] := by decide

/-- A state whose shadow bank holds some entries. -/
def shadowed (es : List Entry) (s : State) : State := { s with store := { s.store with bankB := ⟨100000, es⟩ } }

/-- ENTRY_ADD of a SET at offset 5 on lane 2: between two entries, on a held key, out of range, and while a commit pends. -/
theorem test_entryAdd :
    let b : List Byte := [0, 0, 5, 2, 0, 0, 0, 1, 0, 0, 0, 0, 0]
    let s := shadowed [setEntry 5 1, setEntry 6 0] State.reset
    Fresh .entryAdd (ask .entryAdd b) (asked .entryAdd b s) ∧ readEntry b = some (setEntry 5 2) ∧
    (setEntry 5 2).valid 100000 = true ∧ (setEntry 100000 2).valid 100000 = false ∧
    readEntry [0, 0, 5, 16, 0, 0, 0, 1, 0, 0, 0, 0, 0] = none ∧
    answers .entryAdd .entryAdd b s = [[0, 1, 0, 3, 1, 0x86, 0xA0, 1, 1]] ∧
    (after (exec .entryAdd (asked .entryAdd b s))).store.bankB.entries = [setEntry 5 1, setEntry 5 2, setEntry 6 0] ∧
    answers .entryAdd .entryAdd b (shadowed [setEntry 5 2] State.reset) = [[5, 1, 0, 1, 1, 0x86, 0xA0, 0, 0]] ∧
    answers .entryAdd .entryAdd [1, 0x86, 0xA0, 2, 0, 0, 0, 1, 0, 0, 0, 0, 0] s = [[4, 1, 0, 2, 1, 0x86, 0xA0, 0, 0]] ∧
    answers .entryAdd .entryAdd [0, 0, 5, 16, 0, 0, 0, 1, 0, 0, 0, 0, 0] s = [[4, 1, 0, 2, 1, 0x86, 0xA0, 0, 0]] ∧
    answers .entryAdd .entryAdd b (committing 9 s) = [[8, 1, 0, 2, 1, 0x86, 0xA0, 0, 0]] := by decide

set_option maxRecDepth 8000 in
/-- The 257th entry. -/
theorem test_entryAdd_bankFull :
    answers .entryAdd .entryAdd [0, 0, 5, 2, 0, 0, 0, 1, 0, 0, 0, 0, 0] (shadowed (List.replicate 256 (setEntry 6 0)) State.reset)
      = [[6, 1, 1, 0, 1, 0x86, 0xA0, 0, 0]] := by decide

theorem test_entryRemove :
    let s := shadowed [setEntry 5 1, setEntry 5 2, setEntry 6 0] State.reset
    Fresh .entryRemove (ask .entryRemove [0, 0, 5, 2]) (asked .entryRemove [0, 0, 5, 2] s) ∧ s.store.shadow.ordered ∧
    s.store.shadow.entries = [setEntry 5 1] ++ setEntry 5 2 :: [setEntry 6 0] ∧
    answers .entryRemove .entryRemove [0, 0, 5, 2] s = [[0, 1, 0, 2, 1, 0x86, 0xA0, 1, 1]] ∧
    answers .entryRemove .entryRemove [0, 0, 5, 3] s = [[7, 1, 0, 3, 1, 0x86, 0xA0, 0, 0]] ∧
    answers .entryRemove .entryRemove [0, 0, 5, 16] s = [[4, 1, 0, 3, 1, 0x86, 0xA0, 0, 0]] ∧
    answers .entryRemove .entryRemove [1, 0x86, 0xA0, 2] s = [[4, 1, 0, 3, 1, 0x86, 0xA0, 0, 0]] ∧
    answers .entryRemove .entryRemove [0, 0, 5, 2] (committing 9 s) = [[8, 1, 0, 3, 1, 0x86, 0xA0, 0, 0]] := by decide

/-- The lengths 10,000, 9,999, 16,000,000, 16,000,001, and one at an entry's offset. -/
theorem test_bank_edits :
    let s := shadowed [setEntry 10000 1] State.reset
    Fresh .bankClear (ask .bankClear []) (asked .bankClear [] s) ∧ Fresh .bankCopy (ask .bankCopy []) (asked .bankCopy [] s) ∧
    Fresh .bankLength (ask .bankLength [0, 0x27, 0x10]) (asked .bankLength [0, 0x27, 0x10] s) ∧
    answers .bankClear .bankClear [] s = [[0, 1, 0, 0, 1, 0x86, 0xA0]] ∧
    answers .bankCopy .bankCopy [] s = [[0, 1, 0, 0, 1, 0x86, 0xA0]] ∧
    answers .bankLength .bankLength [0, 0x27, 0x10] s = [[4, 1, 0, 1, 1, 0x86, 0xA0]] ∧
    answers .bankLength .bankLength [0, 0x27, 0x11] s = [[0, 1, 0, 1, 0, 0x27, 0x11]] ∧
    answers .bankLength .bankLength [0, 0x27, 0x10] State.reset = [[0, 1, 0, 0, 0, 0x27, 0x10]] ∧
    answers .bankLength .bankLength [0, 0x27, 0x0F] State.reset = [[4, 1, 0, 0, 1, 0x86, 0xA0]] ∧
    answers .bankLength .bankLength [0xF4, 0x24, 0x00] State.reset = [[0, 1, 0, 0, 0xF4, 0x24, 0x00]] ∧
    answers .bankLength .bankLength [0xF4, 0x24, 0x01] State.reset = [[4, 1, 0, 0, 1, 0x86, 0xA0]] ∧
    answers .bankClear .bankClear [] (committing 9 s) = [[8, 1, 0, 1, 1, 0x86, 0xA0]] := by decide

theorem test_bankRead :
    let s := shadowed [setEntry 5 1, setEntry 6 0] State.reset
    Fresh .bankRead (ask .bankRead [1, 0, 1]) (asked .bankRead [1, 0, 1] s) ∧
    answers .bankRead .bankRead [1, 0, 1] s
      = [[0, 1, 1, 1, 0x86, 0xA0, 0, 2, 0, 1, 1] ++ [0, 0, 6, 0, 0, 0, 0, 1, 0, 0, 0, 0, 0]] ∧
    answers .bankRead .bankRead [1, 0, 2] s = [[0, 1, 1, 1, 0x86, 0xA0, 0, 2, 0, 2, 0]] ∧
    answers .bankRead .bankRead [1, 0, 3] s = [[4]] ∧ answers .bankRead .bankRead [2, 0, 0] s = [[4]] := by decide

theorem test_entry_read_back :
    let e : Entry := ⟨15999999, 15, .pulse, some 65535, 64, 63, true, some 65535⟩
    e.valid 16000000 = true ∧ e.bytes = [0xF4, 0x23, 0xFF, 15, 3, 0xFF, 0xFF, 64, 63, 1, 1, 0xFF, 0xFF] ∧
      readEntry e.bytes = some e := by decide

/-- COMMIT: NEXT, targets at distance 1, 65,535, 65,536, 2^31 and 0, a third kind, a renumber pending, a commit pending. -/
theorem test_commit :
    let s := { State.reset with tb := { State.reset.tb with renumber := some 5 } }
    let no := fun (status : Byte) => [status, 0, 0, 0, 0, 0, 0, 0, 0, 0, 0xFF]
    Fresh .commit (ask .commit [0, 0, 0, 0, 0]) (asked .commit [0, 0, 0, 0, 0] State.reset) ∧
    answers .commit .commit [0, 0, 0, 0, 0] State.reset = [[0, 1, 0, 0, 0, 1, 0, 0, 0, 0, 1]] ∧
    answers .commit .commit [1, 0, 0, 0, 1] State.reset = [[0, 1, 0, 0, 0, 1, 0, 0, 0, 0, 1]] ∧
    answers .commit .commit [1, 0, 0, 0xFF, 0xFF] State.reset = [[0, 1, 0, 0, 0xFF, 0xFF, 0, 0, 0, 0, 1]] ∧
    answers .commit .commit [1, 0, 1, 0, 0] State.reset = [no 4] ∧ answers .commit .commit [1, 0x80, 0, 0, 0] State.reset = [no 0x0C] ∧
    answers .commit .commit [1, 0, 0, 0, 0] State.reset = [no 0x0C] ∧ answers .commit .commit [2, 0, 0, 0, 1] State.reset = [no 4] ∧
    answers .commit .commit [0, 0, 0, 0, 0] s = [no 0x0A] ∧
    answers .commit .commit [0, 0, 0, 0, 0] (committing 9 State.reset) = [[9, 1, 0, 0, 0, 9, 0, 0, 0, 0, 0xFF]] := by decide

theorem test_commitCancel :
    Fresh .commitCancel (ask .commitCancel []) (asked .commitCancel [] State.reset) ∧
    answers .commitCancel .commitCancel [] (committing 9 State.reset) = [[0, 0, 1, 0, 0, 0, 9]] ∧
    answers .commitCancel .commitCancel [] State.reset = [[0x0B, 0, 0, 0, 0, 0, 0]] := by decide

/-! ### Requests of the lanes and the capture side -/

/-- LANE_CONFIG of lane 15: SCHEDULED at level 1, kept, out of range, lane 16, and under the safe latch. -/
theorem test_laneConfig :
    let set := { State.reset with safe := ⟨some .request, .high, none⟩ }
    Fresh .laneConfig (ask .laneConfig [15, 1, 0, 1]) (asked .laneConfig [15, 1, 0, 1] State.reset) ∧
    answers .laneConfig .laneConfig [15, 1, 0, 1] State.reset = [[0, 15, 1, 1, 1]] ∧
    answers .laneConfig .laneConfig [15, 0, 3, 2] State.reset = [[0, 15, 0, 0, 2]] ∧
    answers .laneConfig .laneConfig [15, 2, 0, 1] State.reset = [[4, 15, 0, 0, 2]] ∧
    answers .laneConfig .laneConfig [15, 1, 4, 1] State.reset = [[4, 15, 0, 0, 2]] ∧
    answers .laneConfig .laneConfig [15, 1, 0, 3] State.reset = [[4, 15, 0, 0, 2]] ∧
    answers .laneConfig .laneConfig [16, 1, 0, 1] State.reset = [[4]] ∧
    answers .laneConfig .laneConfig [15, 1, 1, 1] set = [[0x0E, 15, 0, 0, 2]] ∧
    answers .laneConfig .laneConfig [15, 1, 0, 1] set = [[0, 15, 1, 1, 0]] := by decide

theorem test_force_and_release :
    let forced := after (exec .laneForce (asked .laneForce [3, 1] State.reset))
    let s := { forced with arb := ⟨[], [], 0⟩, flags := State.reset.flags, engine := State.reset.engine }
    Fresh .laneForce (ask .laneForce [3, 1]) (asked .laneForce [3, 1] State.reset) ∧
    Fresh .laneRelease (ask .laneRelease [3]) (asked .laneRelease [3] s) ∧
    answers .laneForce .laneForce [3, 1] State.reset = [[0, 3, 2, 0, 1]] ∧
    answers .laneForce .laneForce [3, 0] State.reset = [[0, 3, 3, 0, 0]] ∧
    answers .laneForce .laneForce [3, 2] State.reset = [[4, 3, 0, 0, 2]] ∧
    answers .laneForce .laneForce [16, 1] State.reset = [[4]] ∧
    answers .laneRelease .laneRelease [3] s = [[0, 3, 1, 0, 0]] ∧
    answers .laneRelease .laneRelease [4] s = [[0x0D, 4, 0, 0, 2]] ∧ answers .laneRelease .laneRelease [16] s = [[4]] := by decide

theorem test_laneStatus :
    let s := { State.reset with lanes := State.reset.lanes.set 2 ⟨.scheduled, .high, some 300, .hold, .low⟩ }
    Fresh .laneStatus (ask .laneStatus [2]) (asked .laneStatus [2] s) ∧ lanesQuiet (asked .laneStatus [2] s) = true ∧
    answers .laneStatus .laneStatus [2] s = [[0, 2, 1, 1, 1, 1, 44, 2, 0, 0, 0, 1]] ∧
    answers .laneStatus .laneStatus [3] s = [[0, 3, 0, 0, 0, 0, 0, 0, 2, 0, 0, 2]] ∧
    answers .laneStatus .laneStatus [16] s = [[4]] := by decide

theorem test_inputConfig :
    let s := capturing .latch none State.reset
    let b : List Byte := [9, 3, 255, 1, 0, 0, 1, 0, 0, 2, 0]
    Fresh .inputConfig (ask .inputConfig b) (asked .inputConfig b s) ∧
    answers .inputConfig .inputConfig b s = [[0, 9, 3, 255, 1, 0, 0, 1, 0, 0, 2, 0, 1]] ∧
    (after (exec .inputConfig (asked .inputConfig b s))).capture.lanes.get 9
      = ⟨.both, 255, some ⟨1, 2⟩, .queue, .high, none, LatchRecord.reset⟩ ∧
    answers .inputConfig .inputConfig [9, 4, 0, 0, 0, 0, 0, 0, 0, 0, 0] s = [[4, 9, 3, 20, 0, 0, 0, 0, 0, 0, 0, 1, 0]] ∧
    answers .inputConfig .inputConfig [9, 3, 0, 1, 0, 0, 5, 0, 0, 5, 0] s = [[4, 9, 3, 20, 0, 0, 0, 0, 0, 0, 0, 1, 0]] ∧
    answers .inputConfig .inputConfig [16, 3, 0, 0, 0, 0, 0, 0, 0, 0, 0] s = [[4]] := by decide

theorem test_latchRead :
    let s := capturing .latch none State.reset
    let l := { s.capture.lanes.get 9 with latch := ⟨true, .fall, 1, 2, .locked, true⟩ }
    let held := { s with capture := { s.capture with lanes := s.capture.lanes.set 9 l } }
    Fresh .latchRead (ask .latchRead [9]) (asked .latchRead [9] held) ∧
    answers .latchRead .latchRead [9] held = [[0, 9, 1, 1, 0, 0, 0, 1, 0, 0, 0, 2, 2, 1]] ∧
    answers .latchRead .latchRead [9] s = [[0x13, 9, 1, 0xFF, 0, 0, 0, 0, 0, 0, 0, 0, 0xFF, 0]] ∧
    answers .latchRead .latchRead [0] s = [[0x0D, 0, 0, 0xFF, 0, 0, 0, 0, 0, 0, 0, 0, 0xFF, 0xFF]] ∧
    answers .latchRead .latchRead [16] s = [[4]] := by decide

theorem test_grant_and_flush :
    let s := { State.reset with cq := ⟨List.replicate 3 ⟨0, .rise, 0, 0, 0, .free⟩, 65530, 5⟩ }
    Fresh .captureGrant (ask .captureGrant [0, 6]) (asked .captureGrant [0, 6] s) ∧
    Fresh .captureFlush (ask .captureFlush []) (asked .captureFlush [] s) ∧
    answers .captureGrant .captureGrant [0, 5] s = [[0, 0xFF, 0xFF]] ∧
    answers .captureGrant .captureGrant [0, 6] s = [[0, 0xFF, 0xFF]] ∧
    (after (exec .captureFlush (asked .captureFlush [] s))).cq = ⟨[], 65530, 5⟩ := by decide

/-- A flush takes the turn of the capture source: the flush's reply is sent at the tick or left to the next. A turn that had a
message stays owed. -/
theorem test_flush_takes_the_turn :
    let s := fun turn =>
      { asked .captureFlush [] State.reset with
        cq := ⟨[⟨0, .rise, 0, 0, 0, .free⟩], 1, 0⟩
        arb := ⟨[], [], 0⟩
        flags := { State.reset.flags with sendOwed := turn } }
    let t := after (exec .captureFlush (s .batch))
    turnOf (s .nothing) = .batch ∧ OwnAct.event .transmitStart ∈ mandatory (s .batch) ∧
      OwnAct.event .transmitStart ∈ elective t ∧ OwnAct.event .transmitStart ∉ mandatory t ∧
      OwnAct.event .transmitStart ∈ mandatory (after (exec .captureFlush (s .message))) := by decide

/-! ### The laws -/

/-- The laws hold at reset, so the statements that every step keeps them are about something; a step from there. -/
theorem test_laws_met :
    TrackerPairLegal State.reset ∧ CommitOrRenumber State.reset ∧ QueuesWithinCapacity State.reset ∧ CacheTags State.reset ∧
      CountersWithinRange State.reset ∧ FrameLaw State.reset ∧
      ({ State.reset with arb := ⟨[], [], 0⟩ } : State).pending = [] := by decide

end Sys2Proof.Tests
end

section
/-! SUPPORT. Proofs of the statements about ticks, resets, frames and timestamps. -/

namespace Sys2Proof.Machine

open Sys2Proof Sys2Proof.Machine Sys2Proof.Claims

/-! ### What the device does on its own -/

theorem running_iff {s : State} : running s = true ↔ s.phase = .running := by
  simp [running]

theorem mandatory_subset_due {s : State} {a : OwnAct} (h : a ∈ mandatory s) : a ∈ due s :=
  List.mem_append_left _ h

theorem due_of_ownAct {s : State} {a : OwnAct} (h : ownAct s = some a) : a ∈ due s :=
  List.mem_of_getElem? h

theorem ownAct_of_due_nil {s : State} (h : due s = []) : ownAct s = none := by
  simp [ownAct, h]

/-- The device lets a tick end only where nothing has to be taken at it: otherwise the index chosen lies inside the list of the
things due. -/
theorem mandatory_nil_of_ownAct_none {s : State} (h : ownAct s = none) : mandatory s = [] := by
  by_contra hm
  have hpos : 0 < (due s).length := by
    obtain ⟨a, ha⟩ := List.exists_mem_of_ne_nil _ hm
    exact List.length_pos_of_mem (mandatory_subset_due ha)
  have hidx := Nat.mod_lt (Config.takenNext s.choices) hpos
  have hempty : (mandatory s).isEmpty = false := by simpa using hm
  simp only [ownAct, hempty, Bool.false_eq_true, if_false, Nat.add_zero, List.getElem?_eq_none_iff] at h
  omega

theorem step_of_empty {s : State} (h : s.pending = []) : step s = ownStep s := by
  simp [step, h]

theorem ownStep_of_not_running {s : State} (h : s.phase ≠ .running) : ownStep s = .next s := by
  simp [ownStep, running_iff, h]

theorem ownStep_of_some {s : State} {a : OwnAct} (hr : s.phase = .running) (h : ownAct s = some a) :
    ownStep s = takeOwn { s with choices := s.choices + 1 } a := by
  simp [ownStep, running_iff, hr, h]

theorem ownStep_of_none {s : State} (hr : s.phase = .running) (h : ownAct s = none) :
    ownStep s = .next (beginTick { s with choices := s.choices + 1 }) := by
  simp [ownStep, running_iff, hr, h]

/-- A step of the running device on an empty queue, with the choice that `ownAct` makes. -/
theorem ownStep_cases {s : State} (hr : s.phase = .running) :
    (∃ c, OwnAct.event c ∈ due s ∧ ownStep s = exec c { s with choices := s.choices + 1 }) ∨
      (∃ src, OwnAct.enter src ∈ due s ∧ ownStep s = .next (enter src { s with choices := s.choices + 1 })) ∨
      (mandatory s = [] ∧ ownStep s = .next (beginTick { s with choices := s.choices + 1 })) := by
  cases h : ownAct s with
  | none => exact .inr (.inr ⟨mandatory_nil_of_ownAct_none h, ownStep_of_none hr h⟩)
  | some a =>
    have hmem := due_of_ownAct h
    have hstep := ownStep_of_some hr h
    cases a with
    | event c => exact .inl ⟨c, hmem, hstep⟩
    | enter src => exact .inr (.inl ⟨src, hmem, hstep⟩)

theorem beginTick_boundaryDue (s : State) :
    (beginTick s).flags.boundaryDue = true ↔ ¬ s.tb.offset + 1 < s.tb.planned := by
  rw [Nat.not_lt]
  exact decide_eq_true_iff

/-- Settles O2: by what `ownAct` chooses, and by the fields of the tick's first moment. -/
theorem emptyQueueTakesDueEventOrTicks : Obligations.EmptyQueueTakesDueEventOrTicks := by
  intro s hp
  simp only [step_of_empty hp]
  refine ⟨fun hr => ⟨fun hm => ?_, ?_, fun hd => ownStep_of_none hr (ownAct_of_due_nil hd)⟩,
    ownStep_of_not_running, fun _ => mandatory_subset_due, rfl, beginTick_boundaryDue _,
    rfl, rfl, rfl, rfl, rfl, rfl, rfl, rfl, rfl, rfl, rfl, rfl, rfl, rfl, rfl, rfl, rfl⟩
  · obtain h | h | ⟨hnil, _⟩ := ownStep_cases hr
    · exact .inl h
    · exact .inr h
    · exact absurd hnil hm
  · obtain h | h | ⟨_, h⟩ := ownStep_cases hr
    · exact .inl (.inl h)
    · exact .inl (.inr h)
    · exact .inr h

/-! ### Power and reset -/

/-- Outside the running device every output pin is high-impedance (R14). -/
theorem outputsOff_of_not_running {t : State} (h : t.phase ≠ .running) : OutputsOff t := by
  cases hp : t.phase with
  | running => exact absurd hp h
  | reset => simp [OutputsOff, outPin, outPins, frameOutPin, txdPin, hp]
  | locking cause => simp [OutputsOff, outPin, outPins, frameOutPin, txdPin, hp]

theorem heldInReset_outputsOff (s : State) : OutputsOff (heldInReset s) := outputsOff_of_not_running nofun

theorem startLock_outputsOff (cause : ReadyCause) (baud1 baud0 : Level) (s : State) :
    OutputsOff (startLock cause baud1 baud0 s) := outputsOff_of_not_running nofun

theorem exec_powerOn_of_high {s : State} (baud1 baud0 : Level) (hs : s.pins.supply = false) (hr : s.pins.resetN = .high) :
    exec (.powerOn baud1 baud0) s = .next (startLock .power baud1 baud0 (s.setPins { s.pins with supply := true })) := by
  simp [exec, execPowerOn, hs, hr]

theorem exec_powerOn_of_low {s : State} (baud1 baud0 : Level) (hs : s.pins.supply = false) (hr : s.pins.resetN = .low) :
    exec (.powerOn baud1 baud0) s = .next (heldInReset (s.setPins { s.pins with supply := true })) := by
  simp [exec, execPowerOn, hs, hr]

theorem exec_resetNRelease_of_supply {s : State} (baud1 baud0 : Level) (hr : s.pins.resetN = .low)
    (hs : s.pins.supply = true) :
    exec (.resetNRelease baud1 baud0) s = .next (startLock .pin baud1 baud0 (s.setPins { s.pins with resetN := .high })) := by
  simp [exec, execResetNRelease, hs, hr]

theorem exec_resetNRelease_of_no_supply {s : State} (baud1 baud0 : Level) (hr : s.pins.resetN = .low)
    (hs : s.pins.supply = false) :
    exec (.resetNRelease baud1 baud0) s = .next (heldInReset (s.setPins { s.pins with resetN := .high })) := by
  simp [exec, execResetNRelease, hs, hr]

theorem exec_resetNAssert_of_high {s : State} (h : s.pins.resetN = .high) :
    exec .resetNAssert s = .next (heldInReset (s.setPins { s.pins with resetN := .low })) := by
  simp [exec, execResetNAssert, h]

theorem exec_supplyLoss_of_supply {s : State} (h : s.pins.supply = true) :
    exec .supplyLoss s = .next (heldInReset (s.setPins { s.pins with supply := false })) := by
  simp [exec, execSupplyLoss, h]

/-- Settles O5: POWER_ON splits on the level of RESET_N, RESET_N_RELEASE on the supply. -/
theorem strapsSampledAndLockBegun : Obligations.StrapsSampledAndLockBegun := by
  intro baud1 baud0 s
  refine ⟨fun hs => ?_, fun hr => ?_, rfl, rfl, rfl, rfl⟩
  · cases hr : s.pins.resetN with
    | high =>
      exact ⟨_, exec_powerOn_of_high baud1 baud0 hs hr, rfl, hr, startLock_outputsOff .., rfl, rfl, fun _ => ⟨rfl, rfl⟩, nofun⟩
    | low => exact ⟨_, exec_powerOn_of_low baud1 baud0 hs hr, rfl, hr, heldInReset_outputsOff _, rfl, rfl, nofun, fun _ => rfl⟩
  · cases hs : s.pins.supply with
    | true =>
      exact ⟨_, exec_resetNRelease_of_supply baud1 baud0 hr hs, rfl, hs, startLock_outputsOff .., rfl, rfl,
        fun _ => ⟨rfl, rfl⟩, nofun⟩
    | false =>
      exact ⟨_, exec_resetNRelease_of_no_supply baud1 baud0 hr hs, rfl, hs, heldInReset_outputsOff _, rfl, rfl, nofun,
        fun _ => rfl⟩

/-- The device held in reset rests on the outside pins, the choice counter and the commands waiting alone (R14). -/
theorem heldInReset_congr {s u : State} (hsupply : s.pins.supply = u.pins.supply) (hresetN : s.pins.resetN = u.pins.resetN)
    (hsafeN : s.pins.safeN = u.pins.safeN) (hinputs : s.pins.inputs = u.pins.inputs) (hchoices : s.choices = u.choices)
    (hpending : s.pending = u.pending) : heldInReset s = heldInReset u := by
  simp [heldInReset, hsupply, hresetN, hsafeN, hinputs, hchoices, hpending]

/-- Settles O6: both commands end in `heldInReset`, which reads nothing of the blocks. -/
theorem resetForgetsEverything : Obligations.ResetForgetsEverything := by
  refine ⟨fun s h => ⟨_, exec_resetNAssert_of_high h, rfl, rfl, heldInReset_outputsOff _, rfl, rfl⟩,
    fun s h => ⟨_, exec_supplyLoss_of_supply h, rfl, rfl, heldInReset_outputsOff _, rfl, rfl⟩, ?_⟩
  intro s u hsupply hresetN hsafeN hinputs hchoices hpending
  constructor
  · intro h
    rw [exec_resetNAssert_of_high h, exec_resetNAssert_of_high (hresetN ▸ h)]
    exact congrArg _ (heldInReset_congr hsupply rfl hsafeN hinputs hchoices hpending)
  · intro h
    rw [exec_supplyLoss_of_supply h, exec_supplyLoss_of_supply (hsupply ▸ h)]
    exact congrArg _ (heldInReset_congr rfl hresetN hsafeN hinputs hchoices hpending)

theorem exec_synthesizerLock_of_locking {s : State} {cause : ReadyCause} (h : s.phase = .locking cause) :
    exec .synthesizerLock s = .next (lockEffect cause s) := by
  simp [exec, execSynthesizerLock, h]

theorem Capture.reset_get (inputs : Lanes Level) (lane : Lane) :
    (Capture.reset inputs).lanes.get lane = InLane.reset (inputs.get lane) := by
  simp [Capture.reset]

theorem Capture.restart_get (inputs : Lanes Level) (c : Capture) (lane : Lane) :
    (c.restart inputs).lanes.get lane = { InLane.reset (inputs.get lane) with latch := (c.lanes.get lane).latch.emptied } := by
  simp [Capture.restart]

theorem Handed.of_empty (src : Source) : Handed.empty.of src = [] := by
  cases src <;> rfl

/-- Settles O7: the state that `lockEffect` gives, field by field. -/
theorem lockTakesResetValues : Obligations.LockTakesResetValues := by
  intro s cause h
  refine ⟨_, exec_synthesizerLock_of_locking h, rfl, rfl, rfl, rfl, rfl, Lanes.get_fill _, rfl, fun lane => ?_, rfl, rfl,
    ⟨rfl, rfl, rfl, rfl, rfl, rfl, rfl⟩, rfl, rfl, ⟨rfl, rfl, rfl, Handed.of_empty⟩, rfl⟩
  have hlane : (lockEffect cause s).capture.lanes.get lane = InLane.reset (s.pins.inputs.get lane) :=
    Capture.reset_get ..
  rw [hlane]
  exact ⟨rfl, rfl, rfl, rfl, rfl, rfl, rfl, rfl⟩

theorem exec_restartTakesEffect_of_ready {s : State} (h : restartReady s = true) :
    exec .restartTakesEffect s = .next (restartEffect s) := by
  simp [exec, execRestartTakesEffect, h]

/-- A start edge rebased to the restarted tick time lies as many ticks in the past as before (R15, R150). -/
theorem elapsed_restart (s : State) (start : Tick) :
    elapsed (restartEffect s).tb (start - s.tb.tick) = elapsed s.tb start := by
  have : (0 : Tick) - (start - s.tb.tick) = s.tb.tick - start := by bv_omega
  exact congrArg BitVec.toNat this

/-- The character on RXD after the restart (R150). -/
theorem restartEffect_character (s : State) :
    (restartEffect s).link.character = s.link.character.rebase s.tb.tick := rfl

/-- Settles O8: the state that `restartEffect` gives, field by field; a character under way is rebased. -/
theorem restartKeepsOnlyLinkAndCache : Obligations.RestartKeepsOnlyLinkAndCache := by
  intro s h
  refine ⟨_, exec_restartTakesEffect_of_ready h, rfl, rfl, rfl, rfl, rfl, Lanes.get_fill _, rfl,
    fun lane => Capture.restart_get .., rfl, rfl, ⟨rfl, rfl, rfl, rfl, rfl, rfl, fun hc => ?_, fun start hc => ?_,
    fun start hc => ?_⟩, rfl, rfl, Handed.of_empty, rfl, rfl⟩
  · rw [restartEffect_character, hc]; rfl
  · exact ⟨start - s.tb.tick, by rw [restartEffect_character, hc]; rfl, elapsed_restart s start⟩
  · exact ⟨start - s.tb.tick, by rw [restartEffect_character, hc]; rfl, elapsed_restart s start⟩

/-- Settles O60: each law read off the reset state's fields. -/
theorem resetKeepsEveryLaw : Obligations.ResetKeepsEveryLaw := by
  have hpair : TrackerPairLegal State.reset := by decide
  have hqueues : QueuesWithinCapacity State.reset := by decide
  have htags : CacheTags State.reset := by decide
  have hcounters : CountersWithinRange State.reset := by decide
  have hframe : FrameLaw State.reset := by decide
  exact ⟨hpair, .inl rfl, hqueues, htags, hcounters, hframe, rfl, rfl⟩

/-! ### Boundaries and timestamps -/

theorem nextNumber_eq_nextFrame (s : State) : nextNumber s = nextFrame s := by
  unfold nextNumber nextFrame
  cases s.tb.renumber <;> rfl

/-- The bank active after a boundary is the one that the pending commit names for the frame that begins (R3, R69). -/
theorem boundary_active (cause : Cause) (length : Nat) (s : State) :
    (s.store.boundary (noticeOf cause length s)).active = nextActive s := by
  simp only [Store.boundary, noticeOf, nextNumber_eq_nextFrame, nextActive]
  split <;> rfl

theorem storeBoundary_bank (n : Notice) (st : Store) (i : BankId) : (st.boundary n).bank i = st.bank i := by
  obtain ⟨hA, hB⟩ := storeBoundary_banks n st
  cases i
  · exact hA
  · exact hB

theorem boundary_activeBank_length (cause : Cause) (length : Nat) (s : State) :
    (s.store.boundary (noticeOf cause length s)).activeBank.length = nextLength s := by
  rw [Store.activeBank, storeBoundary_bank, boundary_active, nextLength]

/-- The timebase after a boundary of the present tick (R3, R7, R13). -/
theorem boundary_tb_eq (cause : Cause) (length fires : Nat) (s : State) :
    (boundary cause length fires s).tb =
      ⟨s.tb.tick, nextFrame s, 0, nextLength s, nextLength s, s.tb.tick, some ⟨s.tb.frame, s.tb.start, length⟩, none, 8,
        true⟩ := by
  rw [boundary_tb, boundary_activeBank_length, ← nextNumber_eq_nextFrame]
  rfl

theorem exec_nominalBoundary_of_due {s : State} (fires : Nat) (hr : s.phase = .running) (hb : s.flags.boundaryDue = true) :
    exec (.nominalBoundary fires) s = .next (boundary .nominal s.tb.planned fires s) := by
  simp [exec, execNominalBoundary, running_iff, hr, hb]

theorem exec_nominalBoundary_of_not_due {s : State} (fires : Nat)
    (h : s.phase ≠ .running ∨ s.flags.boundaryDue = false) : exec (.nominalBoundary fires) s = .next s := by
  rcases h with h | h <;> simp [exec, execNominalBoundary, running_iff, h]

/-- Settles O10: NOMINAL_BOUNDARY is the boundary operation, whose fields the lemmas about it give. -/
theorem nominalBoundaryBeginsFrame : Obligations.NominalBoundaryBeginsFrame := by
  refine ⟨fun fires s hr hb => ?_, fun fires s h => exec_nominalBoundary_of_not_due fires h⟩
  exact ⟨_, exec_nominalBoundary_of_due fires hr hb, rfl, boundary_tb_eq .., boundary_active .., nextNumber_eq_nextFrame s,
    rfl, rfl, rfl, rfl, rfl, rfl, rfl, rfl, rfl, rfl, rfl, rfl⟩

/-- Where a timebase stands in its frame, as a timestamp. -/
def Timebase.stamp (tb : Timebase) : FrameNo × Nat := (tb.frame, tb.offset)

theorem Timebase.boundary_stamp (cause : Cause) (length newLength : Nat) (s : State) :
    (s.tb.boundary (noticeOf cause length s) newLength).stamp = (nextNumber s, 0) := rfl

theorem realignAtStart_tb (s : State) : (realignAtStart s).tb = s.tb := by
  unfold realignAtStart
  split <;> rfl

theorem pulseFollowing_stamp {s : State} (fires : Nat) (hb : s.flags.boundaryDue = false) :
    (pulseFollowing fires s).tb.stamp =
      if !pulseLate s && pulseEarly s then (nextNumber s, 0) else (s.tb.frame, s.tb.offset) := by
  by_cases hl : pulseLate s = true
  · simp [pulseFollowing, hb, hl, lateCorrection, Timebase.stamp]
  · by_cases he : pulseEarly s = true
    · simp [pulseFollowing, hb, hl, he, Timebase.boundary_stamp]
    · simp [pulseFollowing, hb, hl, he, Timebase.stamp]

theorem pulseAcquire_stamp {s : State} (fires : Nat) (hb : s.flags.boundaryDue = false) :
    (pulseAcquire fires s).tb.stamp =
      if realigns s && decide (s.tb.offset ≠ 0) then (nextNumber s, 0) else (s.tb.frame, s.tb.offset) := by
  by_cases hr : realigns s = true
  · by_cases ho : s.tb.offset = 0
    · simp [pulseAcquire, hb, hr, ho, realignAtStart_tb, Timebase.stamp]
    · simp [pulseAcquire, hb, hr, ho, Timebase.boundary_stamp]
  · simp [pulseAcquire, hr, Timebase.stamp]

/-- A pulse taken after its tick's boundary begins a frame exactly where `pulseEnds` foresees it, and otherwise leaves the
timebase where it stands in its frame (R22 to R32). -/
theorem takePulse_stamp {s : State} (fires : Nat) (hb : s.flags.boundaryDue = false) :
    (takePulse fires s).tb.stamp = if pulseEnds s then (nextNumber s, 0) else (s.tb.frame, s.tb.offset) := by
  cases hm : s.tracker.mode with
  | localMode => simp [takePulse, pulseEnds, hm, Timebase.stamp]
  | externalMode =>
    cases hs : s.tracker.state with
    | free => simp [takePulse, pulseEnds, hm, hs, Timebase.stamp]
    | acquire => simpa [takePulse, pulseEnds, hm, hs] using pulseAcquire_stamp fires hb
    | locked => simpa [takePulse, pulseEnds, hm, hs] using pulseFollowing_stamp fires hb
    | holdover => simpa [takePulse, pulseEnds, hm, hs] using pulseFollowing_stamp fires hb
    | lost => simp [takePulse, pulseEnds, pulseLost, hm, hs, Timebase.stamp]

/-- An edge sampled at this tick is taken as the tick's pulse (R19). -/
theorem exec_referencePulse_of_edgeNow {s : State} (fires : Nat) (hr : s.phase = .running) (hn : restartReady s = false)
    (he : s.flags.edgeNow = true) :
    exec (.referencePulse ⟨false, fires⟩) s = .next (takePulse fires (pulsed s)) := by
  simp [exec, execReferencePulse, running_iff, hr, settleRestart, hn, edgeWaits, he, pulsed, State.setFlags]

/-- The stamp of a tick whose boundary has been taken and whose pulse has been sampled and not taken (log 27). -/
theorem presentStamp_of_edgeNow {s : State} (hb : s.flags.boundaryDue = false) (he : s.flags.edgeNow = true) :
    presentStamp s = if pulseEnds s then (nextNumber s, 0) else (s.tb.frame, s.tb.offset) := by
  simp [presentStamp, endsNow, hb, he]

theorem presentStamp_of_boundaryDue {s : State} (hb : s.flags.boundaryDue = true) : presentStamp s = (nextNumber s, 0) := by
  simp [presentStamp, endsNow, hb]

theorem presentStamp_of_settled {s : State} (hb : s.flags.boundaryDue = false) (he : s.flags.edgeNow = false) :
    presentStamp s = (s.tb.frame, s.tb.offset) := by
  simp [presentStamp, endsNow, hb, he]

theorem stampOf_running {tb : Timebase} {t : Tick} (h : tb.start ≤ t) : stampOf tb t = (tb.frame, (t - tb.start).toNat) := by
  simp [stampOf, h]

theorem stampOf_prev {tb : Timebase} {t : Tick} {p : PrevFrame} (h : t < tb.start) (hp : tb.prev = some p) :
    stampOf tb t = if p.start ≤ t then (p.frame, (t - p.start).toNat) else (p.frame, 0) := by
  simp [stampOf, BitVec.not_le.mpr h, hp]

theorem stampOf_no_prev {tb : Timebase} {t : Tick} (h : t < tb.start) (hp : tb.prev = none) :
    stampOf tb t = (tb.frame, 0) := by
  simp [stampOf, BitVec.not_le.mpr h, hp]

/-- Settles O12: R9's table by the frame that a tick falls in; the present stamp by what is still to be taken at the tick. -/
theorem ticksAreStamped : Obligations.TicksAreStamped := by
  refine ⟨fun tb t => ⟨stampOf_running, fun h p hp => ⟨fun hs => ?_, fun hs => ?_⟩, stampOf_no_prev⟩,
    fun s => presentStamp_of_settled, fun s t fires hr hb ht => ?_, fun s t fires hr hn hb he ht => ?_, fun s t => rfl⟩
  · rw [stampOf_prev h hp, if_pos hs]
  · rw [stampOf_prev h hp, if_neg (BitVec.not_le.mpr hs)]
  · rw [exec_nominalBoundary_of_due fires hr hb] at ht
    injection ht with ht
    subst ht
    rw [presentStamp_of_boundaryDue hb]
    exact ⟨by rw [nextNumber_eq_nextFrame], rfl⟩
  · rw [exec_referencePulse_of_edgeNow fires hr hn he] at ht
    injection ht with ht
    subst ht
    rw [presentStamp_of_edgeNow hb he]
    exact (takePulse_stamp (s := pulsed s) fires hb).symm

/-! ### The requests that only read -/

/-- A fresh request is taken, carried out by its block and answered (R153, R154). -/
theorem serve_of_fresh {k : ReqKind} {own : List Byte → State → State × List Byte} {r : Request} {s : State}
    (h : Fresh k r s) :
    serve k own s = answer r (own r.body (takeRequest s)).2 (own r.body (takeRequest s)).1 := by
  obtain ⟨hd, hk, hl, hc, ha⟩ := h
  exact serve_carried hd hk hl hc ha

theorem answer_takeRequest (r : Request) (b : List Byte) (s : State) : answer r b (takeRequest s) = replied r b s := rfl

theorem answer_useOffset_takeRequest (r : Request) (b : List Byte) (s : State) :
    answer r b (useOffset (takeRequest s)) = replied r b (offsetUsed s) := rfl

theorem readNow_eq_standing (s : State) : readNow s = standing s := by
  cases hb : s.flags.boundaryDue <;> simp [readNow, viewAt, standing, hb]

theorem reading_of_one_side {α : Type} (item : ReadView → α) (b : Bool) (before now : ReadView) :
    item (if b then before else now) = item now ∨ item (if b then before else now) = item before := by
  cases b
  · exact .inl rfl
  · exact .inr rfl

/-- A mixed reading takes each block on one of the two sides, whichever the free value says (R17). -/
theorem oneSideEach_mixViews (side : BitVec 3) (before now : ReadView) :
    OneSideEach (mixViews side before now) now (some before) :=
  ⟨reading_of_one_side (fun v => (v.frame, v.offset, v.renumber)) (side.getLsbD 0) before now,
    reading_of_one_side ReadView.state (side.getLsbD 1) before now,
    reading_of_one_side (fun v => (v.active, v.commit)) (side.getLsbD 2) before now⟩

theorem oneSideEach_readView (s : State) : OneSideEach (readView s) (standing s) s.flags.readBefore := by
  rw [← readNow_eq_standing]
  cases h : s.flags.readBefore with
  | none => simp [readView, h, OneSideEach]
  | some before => simpa [readView, h] using oneSideEach_mixViews _ before (readNow s)

/-- The items of TIME_READ with the commit's target and the renumber written out (R175). -/
theorem timeItems_eq (mode : TrackMode) (v : ReadView) :
    timeItems mode v =
      frameBytes v.frame ++ be4 v.offset ++ [mode.code, v.state.code, v.active.code]
        ++ (match v.commit with
            | .idle => [0, 0, 0, 0, 0]
            | .pending target => [1] ++ frameBytes target)
        ++ (match v.renumber with
            | none => [0, 0, 0, 0, 0]
            | some f => [1] ++ frameBytes f) := by
  obtain ⟨_, _, renumber, _, _, commit⟩ := v
  cases commit <;> cases renumber <;> rfl

theorem boundary_readBefore {s : State} (cause : Cause) (length fires : Nat) (h : s.flags.readBefore = none) :
    (boundary cause length fires s).flags.readBefore = some (viewAt (length - 1) s) := by
  have : (boundary cause length fires s).flags.readBefore = some (s.flags.readBefore.getD (viewAt (length - 1) s)) := rfl
  rw [this, h]
  rfl

/-- Settles O40: each request is carried out by its block on the state with the request taken, whose reading is that of the
state before. -/
theorem readsOnlyReply : Obligations.ReadsOnlyReply := by
  refine ⟨fun s r h => ?_, fun s r h => ⟨readView s, oneSideEach_readView s, ?_⟩,
    fun cause length fires s h => boundary_readBefore cause length fires h, fun s r h => ?_⟩
  · exact congrArg Host.Outcome.next ((serve_of_fresh h).trans (answer_takeRequest ..))
  · have hserve : serve .timeRead ownTimeRead s =
        replied r (body .ok (timeItems s.tracker.mode (readView s))) (offsetUsed s) :=
      (serve_of_fresh h).trans (answer_useOffset_takeRequest ..)
    rw [timeItems_eq] at hserve
    exact congrArg Host.Outcome.next hserve
  · exact congrArg Host.Outcome.next ((serve_of_fresh h).trans (answer_takeRequest ..))

end Sys2Proof.Machine
end

section
/-! SUPPORT. What each operation of the reference tracker does, one equation per case, and that each keeps the pair of mode
and state legal. -/

namespace Sys2Proof.Machine

open Sys2Proof Sys2Proof.Machine Sys2Proof.Claims

/-! ### What each operation of the tracker does (R20 to R35) -/

/-- An in-window pulse gives LOCKED from HOLDOVER, with its event, and keeps any other state (R25). -/
theorem Tracker.inWindow_eq (correction : Int) (frame : FrameNo) (t : Tracker) :
    t.inWindow correction frame =
      ({ t with
          misses := 0, holdover := 0, lastCorrection := correction
          state := if t.state = .holdover then .locked else t.state },
        if t.state = .holdover then [.trackerState .holdover .locked .pulse frame] else []) := by
  by_cases h : t.state = .holdover <;> simp [Tracker.inWindow, Tracker.change, h]

/-- In LOCKED and HOLDOVER an in-window pulse gives LOCKED (R25). -/
theorem inWindow_state {state : TrackState} (h : state = .locked ∨ state = .holdover) :
    (if state = .holdover then TrackState.locked else state) = .locked := by
  rcases h with rfl | rfl <;> rfl

theorem Tracker.countHoldover_of_limit {t : Tracker} (frame : FrameNo) (h : t.state = .holdover)
    (hl : t.holdoverLimit ≤ t.holdover + 1) :
    t.countHoldover frame =
      ({ t with holdover := t.holdover + 1, candidate := none, state := .lost },
        [.trackerState .holdover .lost .holdoverLimit frame]) := by
  simp [Tracker.countHoldover, Tracker.change, h, hl]

theorem Tracker.countHoldover_of_below {t : Tracker} (frame : FrameNo) (h : t.state = .holdover)
    (hl : ¬ t.holdoverLimit ≤ t.holdover + 1) : t.countHoldover frame = ({ t with holdover := t.holdover + 1 }, []) := by
  simp [Tracker.countHoldover, h, hl]

theorem Tracker.countHoldover_of_ne {t : Tracker} (frame : FrameNo) (h : t.state ≠ .holdover) :
    t.countHoldover frame = (t, []) := by
  simp [Tracker.countHoldover, h]

theorem Tracker.lengthReaction_of_following {t : Tracker} (frame : FrameNo) (h : t.state = .locked ∨ t.state = .holdover) :
    t.lengthReaction frame =
      ({ t with candidate := none, state := .acquire }, [.trackerState t.state .acquire .length frame]) := by
  rcases h with h | h <;> simp [Tracker.lengthReaction, Tracker.change, h]

theorem Tracker.lengthReaction_of_acquire {t : Tracker} (frame : FrameNo) (h : t.state = .acquire) :
    t.lengthReaction frame = ({ t with candidate := none }, []) := by
  simp [Tracker.lengthReaction, h]

theorem Tracker.lengthReaction_of_lost_or_free {t : Tracker} (frame : FrameNo) (h : t.state = .lost ∨ t.state = .free) :
    t.lengthReaction frame = (t, []) := by
  rcases h with h | h <;> simp [Tracker.lengthReaction, h]

theorem Tracker.setMode_of_eq {t : Tracker} {mode : TrackMode} (frame : FrameNo) (h : t.mode = mode) :
    t.setMode mode frame = (t, []) := by
  simp [Tracker.setMode, h]

/-- A change of mode to EXTERNAL gives ACQUIRE with no candidate (R35). -/
theorem Tracker.setMode_external {t : Tracker} (frame : FrameNo) (h : t.mode = .localMode) :
    t.setMode .externalMode frame =
      ({ t with mode := .externalMode, candidate := none, state := .acquire },
        [.trackerState t.state .acquire .config frame]) := by
  simp [Tracker.setMode, Tracker.change, h]

/-- A change of mode to LOCAL gives FREE with no candidate (R35). -/
theorem Tracker.setMode_local {t : Tracker} (frame : FrameNo) (h : t.mode = .externalMode) :
    t.setMode .localMode frame =
      ({ t with mode := .localMode, candidate := none, state := .free }, [.trackerState t.state .free .config frame]) := by
  simp [Tracker.setMode, Tracker.change, h]

/-- The reaction to a change of length where there is one, else nothing (R33). -/
def Tracker.reactTo (changed : Bool) (frame : FrameNo) (t : Tracker) : Tracker :=
  if changed then (t.lengthReaction frame).1 else t

/-- The tracker after a NOMINAL boundary: the held pulse, the holdover count, the change of length (R22, R28, R33). -/
theorem Tracker.boundary_nominal {n : Notice} (h : n.cause = .nominal) (hold : PulseHold) (changed : Bool)
    (planned discarded : Nat) (t : Tracker) :
    (t.boundary n hold changed planned discarded).1 =
      (((({ t with window := t.w, corrected := false }).takeHeld hold n.newFrame).1.countHoldover n.newFrame).1).reactTo
        changed n.newFrame := by
  cases changed <;> simp [Tracker.boundary, Tracker.reactTo, Tracker.beginFrame, Tracker.andThen, h]

/-- The tracker after an EARLY boundary: the pulse that caused it, the change of length (R24, R33). -/
theorem Tracker.boundary_early {n : Notice} (h : n.cause = .early) (hold : PulseHold) (changed : Bool)
    (planned discarded : Nat) (t : Tracker) :
    (t.boundary n hold changed planned discarded).1 =
      ((({ t with window := t.w, corrected := true }).inWindow (-((planned : Int) - n.endLength)) n.newFrame).1).reactTo
        changed n.newFrame := by
  cases changed <;> simp [Tracker.boundary, Tracker.reactTo, Tracker.beginFrame, Tracker.andThen, h]

/-- The tracker after a CUT: the realignment, the change of length (R30, R33). -/
theorem Tracker.boundary_cut {n : Notice} (h : n.cause = .cut) (hold : PulseHold) (changed : Bool)
    (planned discarded : Nat) (t : Tracker) :
    (t.boundary n hold changed planned discarded).1 =
      (({ t with window := t.w, corrected := true }).realign).reactTo changed n.newFrame := by
  cases changed <;> simp [Tracker.boundary, Tracker.reactTo, Tracker.beginFrame, Tracker.andThen, h]

theorem Tracker.reactTo_of_following {t : Tracker} (changed : Bool) (frame : FrameNo)
    (h : t.state = .locked ∨ t.state = .holdover) :
    t.reactTo changed frame =
      { t with
        candidate := if changed then none else t.candidate
        state := if changed then .acquire else t.state } := by
  cases changed <;> simp [Tracker.reactTo, Tracker.lengthReaction_of_following _ h]

theorem Tracker.reactTo_of_acquire {t : Tracker} (changed : Bool) (frame : FrameNo) (h : t.state = .acquire) :
    t.reactTo changed frame = { t with candidate := if changed then none else t.candidate } := by
  cases changed <;> simp [Tracker.reactTo, Tracker.lengthReaction_of_acquire _ h]

theorem Tracker.reactTo_of_lost_or_free {t : Tracker} (changed : Bool) (frame : FrameNo)
    (h : t.state = .lost ∨ t.state = .free) : t.reactTo changed frame = t := by
  cases changed <;> simp [Tracker.reactTo, Tracker.lengthReaction_of_lost_or_free _ h]

/-! ### The pair of mode and state (R18) -/

/-- The pair of mode and state is one of the five (R18): `TrackerPairLegal` of the tracker alone. -/
def Tracker.PairLegal (t : Tracker) : Prop := t.mode = .localMode ↔ t.state = .free

theorem trackerPairLegal_iff (s : State) : TrackerPairLegal s ↔ s.tracker.PairLegal := Iff.rfl

theorem Tracker.inWindow_pairLegal {t : Tracker} (correction : Int) (frame : FrameNo) (h : t.PairLegal) :
    (t.inWindow correction frame).1.PairLegal := by
  rw [Tracker.inWindow_eq]
  cases hs : t.state <;> simpa [Tracker.PairLegal, hs] using h

theorem Tracker.countHoldover_pairLegal {t : Tracker} (frame : FrameNo) (h : t.PairLegal) :
    (t.countHoldover frame).1.PairLegal := by
  by_cases hs : t.state = .holdover
  · by_cases hl : t.holdoverLimit ≤ t.holdover + 1
    · rw [Tracker.countHoldover_of_limit frame hs hl]
      simpa [Tracker.PairLegal, hs] using h
    · rw [Tracker.countHoldover_of_below frame hs hl]
      exact h
  · rw [Tracker.countHoldover_of_ne frame hs]
    exact h

theorem Tracker.lengthReaction_pairLegal {t : Tracker} (frame : FrameNo) (h : t.PairLegal) :
    (t.lengthReaction frame).1.PairLegal := by
  cases hs : t.state with
  | locked | holdover =>
    rw [Tracker.lengthReaction_of_following frame (by simp [hs])]
    simpa [Tracker.PairLegal, hs] using h
  | acquire =>
    rw [Tracker.lengthReaction_of_acquire frame hs]
    exact h
  | lost | free =>
    rw [Tracker.lengthReaction_of_lost_or_free frame (by simp [hs])]
    exact h

theorem Tracker.reactTo_pairLegal {t : Tracker} (changed : Bool) (frame : FrameNo) (h : t.PairLegal) :
    (t.reactTo changed frame).PairLegal := by
  cases changed with
  | true => exact Tracker.lengthReaction_pairLegal frame h
  | false => exact h

theorem Tracker.takeHeld_pairLegal {t : Tracker} (hold : PulseHold) (frame : FrameNo) (h : t.PairLegal) :
    (t.takeHeld hold frame).1.PairLegal := by
  cases hold with
  | none => exact h
  | held => exact Tracker.inWindow_pairLegal 0 frame h
  | applied => exact h

theorem Tracker.realign_pairLegal {t : Tracker} (h : t.mode = .externalMode) : t.realign.PairLegal := by
  simp [Tracker.PairLegal, Tracker.realign, h]

theorem Tracker.setMode_pairLegal {t : Tracker} (mode : TrackMode) (frame : FrameNo) (h : t.PairLegal) :
    (t.setMode mode frame).1.PairLegal := by
  by_cases hm : t.mode = mode
  · rw [Tracker.setMode_of_eq frame hm]
    exact h
  · cases mode <;> simp [Tracker.PairLegal, Tracker.setMode, Tracker.change, hm]

/-- A boundary keeps the pair legal; only a CUT, which needs the EXTERNAL mode, sets the state afresh (R30). -/
theorem Tracker.boundary_pairLegal {n : Notice} {t : Tracker} (hold : PulseHold) (changed : Bool) (planned discarded : Nat)
    (h : t.PairLegal) (hcut : n.cause = .cut → t.mode = .externalMode) :
    (t.boundary n hold changed planned discarded).1.PairLegal := by
  cases hc : n.cause with
  | nominal =>
    rw [Tracker.boundary_nominal hc]
    exact Tracker.reactTo_pairLegal _ _ (Tracker.countHoldover_pairLegal _ (Tracker.takeHeld_pairLegal _ _ h))
  | early =>
    rw [Tracker.boundary_early hc]
    exact Tracker.reactTo_pairLegal _ _ (Tracker.inWindow_pairLegal _ _ h)
  | cut =>
    rw [Tracker.boundary_cut hc]
    exact Tracker.reactTo_pairLegal _ _ (Tracker.realign_pairLegal (hcut hc))

theorem boundary_trackerPairLegal {s : State} (cause : Cause) (length fires : Nat) (h : TrackerPairLegal s)
    (hcut : cause = .cut → s.tracker.mode = .externalMode) : TrackerPairLegal (boundary cause length fires s) :=
  Tracker.boundary_pairLegal (n := noticeOf cause length s) _ _ _ _ h hcut

theorem mode_of_realigns {s : State} (h : realigns s = true) : s.tracker.mode = .externalMode := by
  simp only [realigns, Bool.and_eq_true, beq_iff_eq] at h
  exact h.1.1

theorem pulseFollowing_trackerPairLegal {s : State} (fires : Nat) (h : TrackerPairLegal s) :
    TrackerPairLegal (pulseFollowing fires s) := by
  unfold pulseFollowing
  split
  · exact h
  · split
    · exact Tracker.inWindow_pairLegal _ _ h
    · split
      · exact boundary_trackerPairLegal _ _ _ h nofun
      · exact h

theorem realignAtStart_trackerPairLegal {s : State} (h : TrackerPairLegal s) (hm : s.tracker.mode = .externalMode) :
    TrackerPairLegal (realignAtStart s) := by
  unfold realignAtStart
  split
  · exact Tracker.realign_pairLegal hm
  · exact h

theorem pulseAcquire_trackerPairLegal {s : State} (fires : Nat) (h : TrackerPairLegal s) :
    TrackerPairLegal (pulseAcquire fires s) := by
  unfold pulseAcquire
  split
  · rename_i hr
    have hm := mode_of_realigns hr
    split
    · exact boundary_trackerPairLegal _ _ _ h fun _ => hm
    · split
      · exact realignAtStart_trackerPairLegal h hm
      · exact boundary_trackerPairLegal _ _ _ h fun _ => hm
  · exact h

theorem takePulse_trackerPairLegal {s : State} (fires : Nat) (h : TrackerPairLegal s) :
    TrackerPairLegal (takePulse fires s) := by
  unfold takePulse
  split
  · exact h
  · rename_i hm
    split
    · exact pulseFollowing_trackerPairLegal fires h
    · exact pulseFollowing_trackerPairLegal fires h
    · exact pulseAcquire_trackerPairLegal fires h
    · have : TrackerPairLegal (pulseLost s) ↔ (s.tracker.mode = .localMode ↔ TrackState.acquire = .free) := Iff.rfl
      simp [this, hm]
    · exact h

end Sys2Proof.Machine
end

section
/-! SUPPORT. Every step keeps the tracker's pair legal, and a commit and a renumber from both being pending. -/

namespace Sys2Proof.Machine

open Sys2Proof Sys2Proof.Machine Sys2Proof.Claims

/-! ### What a step keeps of the frame blocks -/

/-- A property of the frame blocks that holds at a reset and that their writers keep is kept by every command. -/
theorem exec_keeps_of_writers {P : FrameBlocks → Prop} (reset : P resetFrameBlocks)
    (writers : ∀ c s t, writesFrameBlocks c = true → P (frameBlocks s) → exec c s = .next t → P (frameBlocks t))
    {c : Instr} {s t : State} (h : P (frameBlocks s)) (e : exec c s = .next t) : P (frameBlocks t) := by
  cases hc : writesFrameBlocks c with
  | true => exact writers c s t hc h e
  | false =>
    rcases exec_keeps_frameBlocks c s t hc e with hb | hb
    · exact hb ▸ h
    · exact hb ▸ reset

theorem enter_frameBlocks (src : Source) (s : State) : frameBlocks (enter src s) = frameBlocks s := by
  unfold enter
  split <;> rfl

/-- A property of the frame blocks that holds at a reset and that their writers and the tick keep is kept by every step. -/
theorem step_keeps_of_writers {P : FrameBlocks → Prop} (reset : P resetFrameBlocks)
    (tick : ∀ b : FrameBlocks, P b → P { b with tb := b.tb.tickOn })
    (writers : ∀ c s t, writesFrameBlocks c = true → P (frameBlocks s) → exec c s = .next t → P (frameBlocks t))
    {s t : State} (h : P (frameBlocks s)) (e : step s = .next t) : P (frameBlocks t) := by
  cases hp : s.pending with
  | cons c rest =>
    simp only [step, hp] at e
    exact exec_keeps_of_writers reset writers (s := { s with pending := rest }) h e
  | nil =>
    rw [step_of_empty hp] at e
    by_cases hr : s.phase = .running
    · obtain ⟨c, _, hs⟩ | ⟨src, _, hs⟩ | ⟨_, hs⟩ := ownStep_cases hr
      · exact exec_keeps_of_writers reset writers (s := { s with choices := s.choices + 1 }) h (hs ▸ e)
      · cases hs.symm.trans e
        rw [enter_frameBlocks]
        exact h
      · cases hs.symm.trans e
        exact tick (frameBlocks s) h
    · cases (ownStep_of_not_running hr).symm.trans e
      exact h

/-- A request whose owning block leaves the tracker leaves it at its dispatch. -/
theorem serve_tracker {k : ReqKind} {own : List Byte → State → State × List Byte}
    (h : ∀ b s, (own b s).1.tracker = s.tracker) (s : State) : (serve k own s).tracker = s.tracker :=
  serve_keeps (P := fun t => t.tracker = s.tracker) (fun _ h => h) (fun _ _ _ h => h) (fun _ _ h => h)
    (fun b u hu => (h b u).trans hu) s rfl

theorem editShadow_tracker {absent : List Byte} {edit : Bank → Except Status (List Byte × Bank)} (s : State) :
    (editShadow absent edit s).1.tracker = s.tracker :=
  editShadow_elim (P := fun t => t.tracker = s.tracker) s (fun _ _ _ => rfl) rfl

theorem settleRestart_trackerPairLegal {s : State} (h : TrackerPairLegal s) : TrackerPairLegal (settleRestart s) := by
  unfold settleRestart
  split
  · exact (by decide : Tracker.reset.mode = .localMode ↔ Tracker.reset.state = .free)
  · exact h

theorem execReferencePulse_trackerPairLegal {s : State} (edge : PulseEdge) (h : TrackerPairLegal s) {t : State}
    (e : exec (.referencePulse edge) s = .next t) : TrackerPairLegal t := by
  have hs := settleRestart_trackerPairLegal h
  simp only [exec, execReferencePulse] at e
  cases e
  split
  · split
    · exact hs
    · exact takePulse_trackerPairLegal edge.fires hs
  · exact h

/-- A miss at MISS_LIMIT in LOCKED gives HOLDOVER with its event (R27). -/
theorem exec_miss_of_limit {s : State} (hd : missDue s = true) (hs : s.tracker.state = .locked)
    (hl : s.tracker.missLimit ≤ satSucc s.tracker.misses) :
    exec .miss s = .next
      (raised .tracker [.trackerState .locked .holdover .miss s.tb.frame]
        { s with
          tracker := { s.tracker with misses := satSucc s.tracker.misses, holdover := 0, state := .holdover }
          flags := { s.flags with missJudged := true, settled := true } }) := by
  simp [exec, execMiss, hd, hs, hl, Tracker.change, raise, raised, State.setTracker, State.setFlags]

/-- Any other miss is only counted (R27). -/
theorem exec_miss_of_counted {s : State} (hd : missDue s = true)
    (hl : ¬ (s.tracker.state = .locked ∧ s.tracker.missLimit ≤ satSucc s.tracker.misses)) :
    exec .miss s = .next
      { s with
        tracker := { s.tracker with misses := satSucc s.tracker.misses }
        flags := { s.flags with missJudged := true, settled := true } } := by
  simp only [exec, execMiss, hd, if_true, if_neg hl, raise_nil]
  rfl

theorem exec_miss_of_not_due {s : State} (hd : missDue s ≠ true) : exec .miss s = .next s := by
  simp [exec, execMiss, hd]

/-- A miss leaves EXTERNAL states EXTERNAL: HOLDOVER comes from LOCKED alone (R27). -/
theorem execMiss_trackerPairLegal {s t : State} (h : TrackerPairLegal s) (e : exec .miss s = .next t) :
    TrackerPairLegal t := by
  by_cases hd : missDue s = true
  · by_cases hl : s.tracker.state = .locked ∧ s.tracker.missLimit ≤ satSucc s.tracker.misses
    · cases (exec_miss_of_limit hd hl.1 hl.2).symm.trans e
      have hm : s.tracker.mode ≠ .localMode := fun hm => absurd (h.mp hm) (by simp [hl.1])
      exact iff_of_false hm nofun
    · cases (exec_miss_of_counted hd hl).symm.trans e
      exact h
  · cases (exec_miss_of_not_due hd).symm.trans e
    exact h

theorem applyHeld_trackerPairLegal {s : State} (h : TrackerPairLegal s) : TrackerPairLegal (applyHeld s) := by
  unfold applyHeld
  split
  · exact Tracker.inWindow_pairLegal _ _ h
  · exact h
  · exact h

theorem configure_trackerPairLegal {s : State} (f : TrackFields) (h : TrackerPairLegal s) :
    TrackerPairLegal (configure f s) :=
  Tracker.setMode_pairLegal (t := { s.tracker with
      w := f.w, acqCount := f.acqCount, missLimit := f.missLimit, holdoverLimit := f.holdoverLimit }) _ _ h

theorem ownTrackConfig_trackerPairLegal {s : State} (b : List Byte) (h : TrackerPairLegal s) :
    TrackerPairLegal (ownTrackConfig b s).1 := by
  have ha := applyHeld_trackerPairLegal h
  unfold ownTrackConfig
  dsimp only
  split
  · exact ha
  · exact configure_trackerPairLegal _ ha

theorem ownTrackStatus_trackerPairLegal {s : State} (b : List Byte) (h : TrackerPairLegal s) :
    TrackerPairLegal (ownTrackStatus b s).1 := by
  unfold ownTrackStatus
  split
  · exact h
  · rename_i clear _
    cases clear <;> exact h

/-- A dispatch keeps the pair legal where its owning block does. -/
theorem serve_trackerPairLegal {k : ReqKind} {own : List Byte → State → State × List Byte}
    (h : ∀ b s, TrackerPairLegal s → TrackerPairLegal (own b s).1) {s : State} (hs : TrackerPairLegal s) :
    TrackerPairLegal (serve k own s) :=
  serve_keeps (P := TrackerPairLegal) (fun _ h => h) (fun _ _ _ h => h) (fun _ _ h => h) h s hs

theorem ownCommit_tracker (b : List Byte) (s : State) : (ownCommit b s).1.tracker = s.tracker := by
  unfold ownCommit
  split
  · rfl
  · split
    · rfl
    · split <;> rfl

theorem ownCommitCancel_tracker (b : List Byte) (s : State) : (ownCommitCancel b s).1.tracker = s.tracker := by
  unfold ownCommitCancel
  split <;> rfl

theorem ownFrameRenumber_tracker (b : List Byte) (s : State) : (ownFrameRenumber b s).1.tracker = s.tracker := by
  unfold ownFrameRenumber
  split <;> rfl

theorem trackerPairLegal_congr {s t : State} (h : t.tracker = s.tracker) (hs : TrackerPairLegal s) :
    TrackerPairLegal t := by
  rw [trackerPairLegal_iff, h]
  exact hs

/-- The writers of the frame blocks keep the pair legal. -/
theorem writer_keeps_trackerPairLegal (c : Instr) (s t : State) (hc : writesFrameBlocks c = true)
    (h : TrackerPairLegal s) (e : exec c s = .next t) : TrackerPairLegal t := by
  cases c with
  | referencePulse edge => exact execReferencePulse_trackerPairLegal edge h e
  | miss => exact execMiss_trackerPairLegal h e
  | nominalBoundary fires =>
    simp only [exec, execNominalBoundary] at e
    cases e
    split
    · exact boundary_trackerPairLegal _ _ _ h nofun
    · exact h
  | frameOutEnd =>
    simp only [exec, execFrameOutEnd] at e
    cases e
    split <;> exact h
  | entryFire =>
    simp only [exec, execEntryFire] at e
    cases e
    split
    · split <;> exact h
    · exact h
  | trackConfig => cases e; exact serve_trackerPairLegal (fun b _ => ownTrackConfig_trackerPairLegal b) h
  | trackStatus => cases e; exact serve_trackerPairLegal (fun b _ => ownTrackStatus_trackerPairLegal b) h
  | frameRenumber => cases e; exact trackerPairLegal_congr (serve_tracker ownFrameRenumber_tracker s) h
  | commit => cases e; exact trackerPairLegal_congr (serve_tracker ownCommit_tracker s) h
  | commitCancel => cases e; exact trackerPairLegal_congr (serve_tracker ownCommitCancel_tracker s) h
  | entryAdd | entryRemove | bankClear | bankCopy | bankLength =>
    cases e
    exact trackerPairLegal_congr (serve_tracker (fun _ s => editShadow_tracker s) s) h
  | _ => cases hc

/-! ### The pending commit and the pending renumber (R11) -/

/-- A commit and a renumber are not both pending (R11): `CommitOrRenumber` of the frame blocks. -/
def FrameBlocks.OnePending (b : FrameBlocks) : Prop := b.store.commit = .idle ∨ b.tb.renumber = none

theorem commitOrRenumber_iff (s : State) : CommitOrRenumber s ↔ (frameBlocks s).OnePending := Iff.rfl

/-- After a boundary no renumber is pending (R7). -/
theorem boundary_commitOrRenumber (cause : Cause) (length fires : Nat) (s : State) :
    CommitOrRenumber (boundary cause length fires s) := .inr rfl

theorem pulseFollowing_commitOrRenumber {s : State} (fires : Nat) (h : CommitOrRenumber s) :
    CommitOrRenumber (pulseFollowing fires s) := by
  unfold pulseFollowing
  split
  · exact h
  · split
    · exact h
    · split
      · exact boundary_commitOrRenumber ..
      · exact h

theorem pulseAcquire_commitOrRenumber {s : State} (fires : Nat) (h : CommitOrRenumber s) :
    CommitOrRenumber (pulseAcquire fires s) := by
  unfold pulseAcquire
  split
  · split
    · exact boundary_commitOrRenumber ..
    · split
      · unfold realignAtStart
        split <;> exact h
      · exact boundary_commitOrRenumber ..
  · exact h

theorem takePulse_commitOrRenumber {s : State} (fires : Nat) (h : CommitOrRenumber s) :
    CommitOrRenumber (takePulse fires s) := by
  unfold takePulse
  split
  · exact h
  · split
    · exact pulseFollowing_commitOrRenumber fires h
    · exact pulseFollowing_commitOrRenumber fires h
    · exact pulseAcquire_commitOrRenumber fires h
    · exact h
    · exact h

theorem execReferencePulse_commitOrRenumber {s t : State} (edge : PulseEdge) (h : CommitOrRenumber s)
    (e : exec (.referencePulse edge) s = .next t) : CommitOrRenumber t := by
  have hs : CommitOrRenumber (settleRestart s) := by
    unfold settleRestart
    split
    · exact .inl rfl
    · exact h
  simp only [exec, execReferencePulse] at e
  cases e
  split
  · split
    · exact hs
    · exact takePulse_commitOrRenumber edge.fires hs
  · exact h

theorem editShadow_commitOrRenumber {absent : List Byte} {edit : Bank → Except Status (List Byte × Bank)} {s : State}
    (h : CommitOrRenumber s) : CommitOrRenumber (editShadow absent edit s).1 := by
  refine editShadow_elim s (fun _ b _ => ?_) h
  have hc : (s.store.setShadow b).commit = s.store.commit := commit_setShadow ..
  exact h.imp_left hc.trans

/-- A commit is accepted only where no renumber is pending (R62). -/
theorem ownCommit_commitOrRenumber {s : State} (b : List Byte) (h : CommitOrRenumber s) :
    CommitOrRenumber (ownCommit b s).1 := by
  unfold ownCommit
  split
  · exact h
  · split
    · exact h
    · rename_i hn
      split
      · exact h
      · exact .inr (by simpa using hn)

theorem ownCommitCancel_commitOrRenumber {s : State} (b : List Byte) (h : CommitOrRenumber s) :
    CommitOrRenumber (ownCommitCancel b s).1 := by
  unfold ownCommitCancel
  split
  · exact .inl rfl
  · exact h

/-- A renumber is accepted only where no commit is pending (R11). -/
theorem ownFrameRenumber_commitOrRenumber {s : State} (b : List Byte) (h : CommitOrRenumber s) :
    CommitOrRenumber (ownFrameRenumber b s).1 := by
  unfold ownFrameRenumber
  split
  · exact h
  · rename_i hc
    exact .inl hc

theorem ownTrackConfig_commitOrRenumber {s : State} (b : List Byte) (h : CommitOrRenumber s) :
    CommitOrRenumber (ownTrackConfig b s).1 := by
  have ha : CommitOrRenumber (applyHeld s) := by
    unfold applyHeld
    split <;> exact h
  unfold ownTrackConfig
  dsimp only
  split <;> exact ha

theorem ownTrackStatus_commitOrRenumber {s : State} (b : List Byte) (h : CommitOrRenumber s) :
    CommitOrRenumber (ownTrackStatus b s).1 := by
  unfold ownTrackStatus
  split
  · exact h
  · rename_i clear _
    cases clear <;> exact h

/-- A dispatch keeps the two from both being pending where its owning block does. -/
theorem serve_commitOrRenumber {k : ReqKind} {own : List Byte → State → State × List Byte}
    (h : ∀ b s, CommitOrRenumber s → CommitOrRenumber (own b s).1) {s : State} (hs : CommitOrRenumber s) :
    CommitOrRenumber (serve k own s) :=
  serve_keeps (P := CommitOrRenumber) (fun _ h => h) (fun _ _ _ h => h) (fun _ _ h => h) h s hs

/-- The writers of the frame blocks keep a commit and a renumber from both being pending. -/
theorem writer_keeps_commitOrRenumber (c : Instr) (s t : State) (hc : writesFrameBlocks c = true)
    (h : CommitOrRenumber s) (e : exec c s = .next t) : CommitOrRenumber t := by
  cases c with
  | referencePulse edge => exact execReferencePulse_commitOrRenumber edge h e
  | nominalBoundary fires =>
    simp only [exec, execNominalBoundary] at e
    cases e
    split
    · exact boundary_commitOrRenumber ..
    · exact h
  | miss =>
    simp only [exec, execMiss] at e
    cases e
    split <;> exact h
  | frameOutEnd =>
    simp only [exec, execFrameOutEnd] at e
    cases e
    split <;> exact h
  | entryFire =>
    simp only [exec, execEntryFire] at e
    cases e
    split
    · split <;> exact h
    · exact h
  | trackConfig => cases e; exact serve_commitOrRenumber (fun b _ => ownTrackConfig_commitOrRenumber b) h
  | trackStatus => cases e; exact serve_commitOrRenumber (fun b _ => ownTrackStatus_commitOrRenumber b) h
  | frameRenumber => cases e; exact serve_commitOrRenumber (fun b _ => ownFrameRenumber_commitOrRenumber b) h
  | commit => cases e; exact serve_commitOrRenumber (fun b _ => ownCommit_commitOrRenumber b) h
  | commitCancel => cases e; exact serve_commitOrRenumber (fun b _ => ownCommitCancel_commitOrRenumber b) h
  | entryAdd | entryRemove | bankClear | bankCopy | bankLength =>
    cases e
    exact serve_commitOrRenumber (fun _ _ => editShadow_commitOrRenumber) h
  | _ => cases hc

/-- Settles O57: both laws are about the frame blocks, hold at a reset, and are kept by the tick and by every writer. -/
theorem stepKeepsPairAndPendings : Obligations.StepKeepsPairAndPendings := by
  have hreset : Tracker.reset.PairLegal := by
    unfold Tracker.PairLegal
    decide
  refine ⟨fun s t h e => ?_, fun s t h e => ?_⟩
  · exact (trackerPairLegal_iff t).mpr
      (step_keeps_of_writers (P := fun b => b.tracker.PairLegal) hreset (fun _ h => h) writer_keeps_trackerPairLegal h e)
  · exact (commitOrRenumber_iff t).mpr
      (step_keeps_of_writers (P := FrameBlocks.OnePending) (.inl rfl) (fun _ h => h) writer_keeps_commitOrRenumber h e)

end Sys2Proof.Machine
end

section
/-! SUPPORT. Proofs of the statements about reference pulses, the tracker at a NOMINAL boundary and the timed events. -/

namespace Sys2Proof.Machine

open Sys2Proof Sys2Proof.Machine Sys2Proof.Claims

/-! ### A reference pulse taken at the present tick (R19 to R32) -/

/-- Where the device runs and no restart is due, a pulse is taken exactly where its edge does not wait (log 8). -/
theorem pulseTakenNow_iff {s : State} (hr : s.phase = .running) (hn : restartReady s = false) :
    PulseTakenNow s ↔ edgeWaits s = false := by
  cases he : s.flags.edgeNow <;> simp [PulseTakenNow, edgeWaits, hr, hn, he, and_assoc, imp_iff_not_or]

theorem exec_referencePulse_of_taken {s : State} (fires : Nat) (h : PulseTakenNow s) :
    exec (.referencePulse ⟨false, fires⟩) s = .next (takePulse fires (pulsed s)) := by
  have ⟨hr, hn, _⟩ := h
  have hw := (pulseTakenNow_iff hr hn).mp h
  simp [exec, execReferencePulse, running_iff, hr, settleRestart, hn, hw, pulsed, State.setFlags]

/-- An edge that comes after this tick's sampling, or that this tick can no longer take, waits for the next tick (log 8). -/
theorem exec_referencePulse_of_waiting {s : State} {late : Bool} (fires : Nat) (hr : s.phase = .running)
    (hn : restartReady s = false) (h : late = true ∨ ¬ PulseTakenNow s) :
    exec (.referencePulse ⟨late, fires⟩) s = .next { s with pins := { s.pins with frameInEdge := true } } := by
  rw [pulseTakenNow_iff hr hn, Bool.not_eq_false] at h
  simp [exec, execReferencePulse, running_iff, hr, settleRestart, hn, h, State.setPins]

theorem exec_referencePulse_of_not_running {s : State} (edge : PulseEdge) (hr : s.phase ≠ .running) :
    exec (.referencePulse edge) s = .next s := by
  simp [exec, execReferencePulse, running_iff, hr]

theorem takePulse_of_local {s : State} (fires : Nat) (hm : s.tracker.mode = .localMode) : takePulse fires s = s := by
  simp [takePulse, hm]

theorem takePulse_of_following {s : State} (fires : Nat) (hm : s.tracker.mode = .externalMode)
    (hs : s.tracker.state = .locked ∨ s.tracker.state = .holdover) : takePulse fires s = pulseFollowing fires s := by
  rcases hs with hs | hs <;> simp [takePulse, hm, hs]

theorem takePulse_of_acquire {s : State} (fires : Nat) (hm : s.tracker.mode = .externalMode)
    (hs : s.tracker.state = .acquire) : takePulse fires s = pulseAcquire fires s := by
  simp [takePulse, hm, hs]

theorem takePulse_of_lost {s : State} (fires : Nat) (hm : s.tracker.mode = .externalMode)
    (hs : s.tracker.state = .lost) : takePulse fires s = pulseLost s := by
  simp [takePulse, hm, hs]

/-! ### A pulse in LOCKED or HOLDOVER (R22 to R26) -/

theorem pulseLate_iff {s : State} :
    pulseLate s = true ↔ s.tb.offset ≤ s.tracker.window ∧ s.tracker.corrected = false := by
  simp [pulseLate]

theorem pulseLate_eq_false_iff {s : State} :
    pulseLate s = false ↔ s.tracker.window < s.tb.offset ∨ s.tracker.corrected = true := by
  rw [← Bool.not_eq_true, pulseLate_iff, not_and_or, Nat.not_le, Bool.not_eq_false]

theorem pulseEarly_iff {s : State} : pulseEarly s = true ↔ s.tb.planned ≤ s.tb.offset + s.tracker.window :=
  decide_eq_true_iff

theorem pulseFollowing_of_boundaryDue {s : State} (fires : Nat) (hb : s.flags.boundaryDue = true) :
    pulseFollowing fires s = { s with flags := { s.flags with pulseHeld := .held } } := by
  simp [pulseFollowing, hb, State.setFlags]

theorem pulseFollowing_of_late {s : State} (fires : Nat) (hb : s.flags.boundaryDue = false) (hl : pulseLate s = true) :
    pulseFollowing fires s = lateCorrection s := by
  simp [pulseFollowing, hb, hl]

theorem pulseFollowing_of_early {s : State} (fires : Nat) (hb : s.flags.boundaryDue = false) (hl : pulseLate s = false)
    (he : pulseEarly s = true) : pulseFollowing fires s = boundary .early s.tb.offset fires s := by
  simp [pulseFollowing, hb, hl, he]

theorem pulseFollowing_of_stray {s : State} (fires : Nat) (hb : s.flags.boundaryDue = false) (hl : pulseLate s = false)
    (he : ¬ pulseEarly s = true) :
    pulseFollowing fires s = { s with tracker := { s.tracker with strays := satSucc s.tracker.strays } } := by
  simp [pulseFollowing, hb, hl, he, State.setTracker]

/-- The late correction in LOCKED or HOLDOVER (R4, R23, R25). -/
theorem lateCorrection_of_following {s : State} (hs : s.tracker.state = .locked ∨ s.tracker.state = .holdover) :
    lateCorrection s =
      raised .tracker (if s.tracker.state = .holdover then [.trackerState .holdover .locked .pulse s.tb.frame] else [])
        { s with
          tb := { s.tb with planned := s.tb.startLen + s.tb.offset }
          tracker :=
            { s.tracker with
              corrected := true, misses := 0, holdover := 0, lastCorrection := s.tb.offset, state := .locked } } := by
  rcases hs with hs | hs <;> simp [lateCorrection, Tracker.inWindow_eq, hs, raise, raised, State.setTracker, State.setTb,
    State.setFlags]

/-! ### The tracker at a boundary (R24, R25, R28, R30, R33) -/

/-- Whether the frame length changes at the coming boundary (R33). -/
abbrev lengthChanges (s : State) : Bool := decide (nextLength s ≠ s.tb.startLen)

theorem ite_lengthChanges {α : Type} (s : State) (a b : α) :
    (if lengthChanges s then a else b) = if nextLength s = s.tb.startLen then b else a := by
  simp [lengthChanges]

/-- The tracker after an EARLY boundary in LOCKED or HOLDOVER (R24, R25, R33). -/
theorem boundary_early_tracker {s : State} (length fires : Nat)
    (hs : s.tracker.state = .locked ∨ s.tracker.state = .holdover) :
    (boundary .early length fires s).tracker =
      { s.tracker with
        window := s.tracker.w, corrected := true, misses := 0, holdover := 0
        lastCorrection := -((s.tb.planned : Int) - length)
        state := if nextLength s = s.tb.startLen then .locked else .acquire
        candidate := if nextLength s = s.tb.startLen then s.tracker.candidate else none } := by
  have hlocked := inWindow_state hs
  rw [boundary_tracker, boundary_activeBank_length, Tracker.boundary_early rfl, Tracker.inWindow_eq]
  simp only [hlocked]
  rw [Tracker.reactTo_of_following _ _ (.inl rfl), ite_lengthChanges, ite_lengthChanges]
  rfl

/-- The tracker after a CUT (R30, R33). -/
theorem boundary_cut_tracker (length fires : Nat) (s : State) :
    (boundary .cut length fires s).tracker =
      { s.tracker with
        window := s.tracker.w, corrected := true, misses := 0, holdover := 0, candidate := none
        realignments := satSucc s.tracker.realignments
        state := if nextLength s = s.tb.startLen then .locked else .acquire } := by
  rw [boundary_tracker, boundary_activeBank_length, Tracker.boundary_cut rfl,
    Tracker.reactTo_of_following _ _ (.inl rfl), ite_lengthChanges, ite_lengthChanges]
  simp [Tracker.realign]

/-- Settles O14: the pulse is early, so it is the boundary operation at its offset. -/
theorem earlyPulseEndsFrame : Obligations.EarlyPulseEndsFrame := by
  intro fires s h hm hs hb hl he
  have htake : exec (.referencePulse ⟨false, fires⟩) s = .next (boundary .early s.tb.offset fires (pulsed s)) := by
    rw [exec_referencePulse_of_taken fires h, takePulse_of_following (s := pulsed s) fires hm hs,
      pulseFollowing_of_early (s := pulsed s) fires hb (pulseLate_eq_false_iff.mpr hl) (pulseEarly_iff.mpr he)]
    rfl
  refine ⟨_, htake, rfl, boundary_tb_eq .., ?_⟩
  rw [boundary_early_tracker (s := pulsed s) s.tb.offset fires hs]
  exact ⟨rfl, rfl, rfl, rfl, rfl, rfl, rfl⟩

/-- Settles O15: each of the three pulses is one branch of `pulseFollowing`. -/
theorem pulseLeavesTheFrameRunning : Obligations.PulseLeavesTheFrameRunning := by
  intro fires s h hm hs
  rw [exec_referencePulse_of_taken fires h, takePulse_of_following (s := pulsed s) fires hm hs]
  refine ⟨fun hb => ?_, fun hb hw hc => ?_, fun hb hl he => ?_⟩
  · rw [pulseFollowing_of_boundaryDue (s := pulsed s) fires hb]
    rfl
  · rw [pulseFollowing_of_late (s := pulsed s) fires hb (pulseLate_iff.mpr ⟨hw, hc⟩),
      lateCorrection_of_following (s := pulsed s) hs]
    rfl
  · rw [pulseFollowing_of_stray (s := pulsed s) fires hb (pulseLate_eq_false_iff.mpr hl)
      (fun hp => absurd (pulseEarly_iff.mp hp) (Nat.not_le.mpr he))]
    rfl

/-! ### A pulse in ACQUIRE or LOST (R29 to R32) -/

theorem nextCandidate_of_none {s : State} (h : s.tracker.candidate = none) : nextCandidate s = ⟨s.tb.tick, 1⟩ := by
  simp [nextCandidate, h]

/-- A pulse whose spacing lies from L − W to L + W adds to the run (R29). -/
theorem nextCandidate_of_spaced {s : State} {c : Candidate} (h : s.tracker.candidate = some c)
    (hsp : s.tb.startLen ≤ (s.tb.tick - c.tick).toNat + s.tracker.w ∧
      (s.tb.tick - c.tick).toNat ≤ s.tb.startLen + s.tracker.w) : nextCandidate s = ⟨s.tb.tick, c.count + 1⟩ := by
  simp only [nextCandidate, h]
  exact if_pos hsp

/-- A pulse at any other spacing begins a new run (R29). -/
theorem nextCandidate_of_not_spaced {s : State} {c : Candidate} (h : s.tracker.candidate = some c)
    (hsp : ¬ (s.tb.startLen ≤ (s.tb.tick - c.tick).toNat + s.tracker.w ∧
      (s.tb.tick - c.tick).toNat ≤ s.tb.startLen + s.tracker.w)) : nextCandidate s = ⟨s.tb.tick, 1⟩ := by
  simp only [nextCandidate, h]
  exact if_neg hsp

theorem realigns_iff {s : State} (hm : s.tracker.mode = .externalMode) (hs : s.tracker.state = .acquire) :
    realigns s = true ↔ s.tracker.acqCount ≤ (nextCandidate s).count := by
  simp [realigns, hm, hs]

/-- A pulse that leaves the run shorter than ACQ_COUNT changes only the candidate (R29). -/
theorem exec_referencePulse_of_short_run {s : State} {c : Candidate} (fires : Nat) (h : PulseTakenNow s)
    (hm : s.tracker.mode = .externalMode) (hs : s.tracker.state = .acquire) (hc : nextCandidate s = c)
    (hrun : c.count < s.tracker.acqCount) :
    exec (.referencePulse ⟨false, fires⟩) s = .next
      { pulsed s with tracker := { s.tracker with candidate := some c } } := by
  have hr : ¬ realigns (pulsed s) = true := by
    rw [realigns_iff (s := pulsed s) hm hs]
    exact Nat.not_le.mpr (by rw [← hc] at hrun; exact hrun)
  rw [exec_referencePulse_of_taken fires h, takePulse_of_acquire (s := pulsed s) fires hm hs, pulseAcquire, if_neg hr, ← hc]
  rfl

/-- A pulse in LOST begins an acquisition; before its tick's boundary its event carries the frame that begins (R22, R32). -/
theorem pulseLost_pulsed (s : State) (hs : s.tracker.state = .lost) :
    pulseLost (pulsed s) =
      raised .tracker [.trackerState .lost .acquire .pulse (if s.flags.boundaryDue then nextFrame s else s.tb.frame)]
        { s with
          tracker := { s.tracker with state := .acquire, candidate := some ⟨s.tb.tick, 1⟩ }
          flags :=
            { s.flags with
              pulseTaken := true, edgeNow := false, stamped := s.flags.stamped || s.flags.boundaryDue } } := by
  have hends : endsNow (pulsed s) = s.flags.boundaryDue := by simp [endsNow, pulsed]
  have hframe : (presentStamp (pulsed s)).1 = if s.flags.boundaryDue then nextFrame s else s.tb.frame := by
    rw [presentStamp, hends, nextNumber_eq_nextFrame]
    split <;> rfl
  simp only [pulseLost, hends, hframe, Tracker.change]
  rw [show (pulsed s).tracker.state = .lost from hs]
  rfl

/-- Settles O16: by the tracker's mode and state, and in ACQUIRE by what the pulse makes of the candidate. -/
theorem pulseOutsideTheWindows : Obligations.PulseOutsideTheWindows := by
  intro fires s
  refine ⟨fun late => exec_referencePulse_of_not_running _, fun late => exec_referencePulse_of_waiting fires,
    fun h => ⟨fun hm => ?_, fun hm hs => ?_, fun hm hs => ⟨fun hc hrun => ?_, fun c hc => ⟨fun hsp hrun => ?_,
      fun hsp hrun => ?_⟩⟩⟩⟩
  · rw [exec_referencePulse_of_taken fires h, takePulse_of_local (s := pulsed s) fires hm]
  · rw [exec_referencePulse_of_taken fires h, takePulse_of_lost (s := pulsed s) fires hm hs, pulseLost_pulsed s hs]
  · exact exec_referencePulse_of_short_run fires h hm hs (nextCandidate_of_none hc) hrun
  · exact exec_referencePulse_of_short_run fires h hm hs (nextCandidate_of_spaced hc hsp) hrun
  · exact exec_referencePulse_of_short_run fires h hm hs (nextCandidate_of_not_spaced hc hsp) hrun

theorem pulseAcquire_of_cut {s : State} (fires : Nat) (hr : realigns s = true)
    (h : s.flags.boundaryDue = true ∨ s.tb.offset ≠ 0) :
    pulseAcquire fires s = boundary .cut (if s.flags.boundaryDue then s.tb.planned else s.tb.offset) fires s := by
  cases hb : s.flags.boundaryDue with
  | true => simp [pulseAcquire, hr, hb]
  | false => simp [pulseAcquire, hr, hb, h.resolve_left (by simp [hb])]

theorem pulseAcquire_of_start {s : State} (fires : Nat) (hr : realigns s = true) (hb : s.flags.boundaryDue = false)
    (ho : s.tb.offset = 0) : pulseAcquire fires s = realignAtStart s := by
  simp [pulseAcquire, hr, hb, ho]

theorem recause_eq_asCut : recause = asCut := by
  funext e
  cases e with
  | committed _ _ _ cause => cases cause <;> rfl
  | _ => rfl

/-- Settles O17: the run is complete, so the pulse is the boundary operation with cause CUT, or, where the NOMINAL boundary of
its tick has been taken, the realignment at the frame's start. -/
theorem realignmentCutsFrame : Obligations.RealignmentCutsFrame := by
  intro fires s c h hm hs hc hlo hhi hrun
  have hr : realigns (pulsed s) = true := by
    rw [realigns_iff (s := pulsed s) hm hs, nextCandidate_of_spaced (s := pulsed s) hc ⟨hlo, hhi⟩]
    exact hrun
  rw [exec_referencePulse_of_taken fires h, takePulse_of_acquire (s := pulsed s) fires hm hs]
  refine ⟨fun hcut => ?_, fun hb ho p hp => ?_⟩
  · rw [pulseAcquire_of_cut (s := pulsed s) fires hr hcut]
    refine ⟨_, rfl, rfl, ?_⟩
    rw [boundary_tb_eq, boundary_cut_tracker]
    exact ⟨rfl, rfl, rfl, rfl, rfl, rfl, rfl, rfl, rfl, rfl, rfl⟩
  · rw [pulseAcquire_of_start (s := pulsed s) fires hr hb ho]
    have hp' : (pulsed s).tb.prev = some p := hp
    simp only [realignAtStart, hp', recause_eq_asCut]
    rw [show (pulsed s).tracker.state = .acquire from hs]
    rfl

/-! ### The tracker at a NOMINAL boundary (R20 to R22, R28, R33) -/

/-- The tracker as a frame begins in a NOMINAL boundary, its flag set by a pulse taken before the boundary (R20 to R22). -/
def Tracker.begunNominal (hold : PulseHold) (t : Tracker) : Tracker :=
  { t with window := t.w, corrected := decide (hold ≠ .none) }

theorem Tracker.begunNominal_corrected_iff (hold : PulseHold) (t : Tracker) :
    (t.begunNominal hold).corrected = true ↔ hold ≠ .none := decide_eq_true_iff

theorem Tracker.takeHeld_of_not_held {hold : PulseHold} (frame : FrameNo) (t : Tracker) (h : hold ≠ .held) :
    (({ t with window := t.w, corrected := false } : Tracker).takeHeld hold frame).1 = t.begunNominal hold := by
  cases hold with
  | none => rfl
  | held => exact absurd rfl h
  | applied => rfl

theorem Tracker.takeHeld_of_held (frame : FrameNo) (t : Tracker) :
    (({ t with window := t.w, corrected := false } : Tracker).takeHeld .held frame).1 =
      ((t.begunNominal .held).inWindow 0 frame).1 := rfl

/-- The holdover count and the reaction to the length, made after the pulse (R28, R33). -/
def Tracker.countAndReact (changed : Bool) (frame : FrameNo) (t : Tracker) : Tracker :=
  (t.countHoldover frame).1.reactTo changed frame

theorem boundary_nominal_tracker_of_not_held {s : State} (fires : Nat) (h : s.flags.pulseHeld ≠ .held) :
    (boundary .nominal s.tb.planned fires s).tracker =
      (s.tracker.begunNominal s.flags.pulseHeld).countAndReact (lengthChanges s) (nextNumber s) := by
  rw [boundary_tracker, boundary_activeBank_length, Tracker.boundary_nominal rfl, Tracker.takeHeld_of_not_held _ _ h]
  rfl

theorem boundary_nominal_tracker_of_held {s : State} (fires : Nat) (h : s.flags.pulseHeld = .held) :
    (boundary .nominal s.tb.planned fires s).tracker =
      ((s.tracker.begunNominal .held).inWindow 0 (nextNumber s)).1.countAndReact (lengthChanges s) (nextNumber s) := by
  rw [boundary_tracker, boundary_activeBank_length, Tracker.boundary_nominal rfl, h, Tracker.takeHeld_of_held]
  rfl

theorem Tracker.countAndReact_of_limit {t : Tracker} (changed : Bool) (frame : FrameNo) (h : t.state = .holdover)
    (hl : t.holdoverLimit ≤ t.holdover + 1) :
    t.countAndReact changed frame = { t with holdover := t.holdover + 1, candidate := none, state := .lost } := by
  rw [Tracker.countAndReact, Tracker.countHoldover_of_limit frame h hl, Tracker.reactTo_of_lost_or_free _ _ (.inl rfl)]

theorem Tracker.countAndReact_of_below {t : Tracker} (changed : Bool) (frame : FrameNo) (h : t.state = .holdover)
    (hl : ¬ t.holdoverLimit ≤ t.holdover + 1) :
    t.countAndReact changed frame =
      { t with
        holdover := t.holdover + 1
        candidate := if changed then none else t.candidate
        state := if changed then .acquire else .holdover } := by
  rw [Tracker.countAndReact, Tracker.countHoldover_of_below frame h hl,
    Tracker.reactTo_of_following (t := { t with holdover := t.holdover + 1 }) _ _ (.inr h), h]

theorem Tracker.countAndReact_of_locked {t : Tracker} (changed : Bool) (frame : FrameNo) (h : t.state = .locked) :
    t.countAndReact changed frame =
      { t with
        candidate := if changed then none else t.candidate
        state := if changed then .acquire else .locked } := by
  rw [Tracker.countAndReact, Tracker.countHoldover_of_ne frame (by simp [h]), Tracker.reactTo_of_following _ _ (.inl h), h]

theorem Tracker.countAndReact_of_acquire {t : Tracker} (changed : Bool) (frame : FrameNo) (h : t.state = .acquire) :
    t.countAndReact changed frame = { t with candidate := if changed then none else t.candidate } := by
  rw [Tracker.countAndReact, Tracker.countHoldover_of_ne frame (by simp [h]), Tracker.reactTo_of_acquire _ _ h]

theorem Tracker.countAndReact_of_lost_or_free {t : Tracker} (changed : Bool) (frame : FrameNo)
    (h : t.state = .lost ∨ t.state = .free) : t.countAndReact changed frame = t := by
  rw [Tracker.countAndReact, Tracker.countHoldover_of_ne frame (by rcases h with h | h <;> simp [h]),
    Tracker.reactTo_of_lost_or_free _ _ h]

theorem Tracker.reactTo_holdover (changed : Bool) (frame : FrameNo) (t : Tracker) :
    (t.reactTo changed frame).holdover = t.holdover := by
  cases changed with
  | false => rfl
  | true =>
    simp only [Tracker.reactTo, Tracker.lengthReaction, if_true]
    split <;> rfl

theorem Tracker.countAndReact_holdover_of_ne {t : Tracker} (changed : Bool) (frame : FrameNo) (h : t.state ≠ .holdover) :
    (t.countAndReact changed frame).holdover = t.holdover := by
  rw [Tracker.countAndReact, Tracker.reactTo_holdover, Tracker.countHoldover_of_ne frame h]

/-- The holdover count and the reaction to the length leave all but the state, the candidate and the holdover count. -/
theorem Tracker.countAndReact_changes (changed : Bool) (frame : FrameNo) (t : Tracker) :
    ∃ state candidate holdover, t.countAndReact changed frame =
      { t with state := state, candidate := candidate, holdover := holdover } := by
  cases hs : t.state with
  | holdover =>
    by_cases hl : t.holdoverLimit ≤ t.holdover + 1
    · exact ⟨_, _, _, Tracker.countAndReact_of_limit _ _ hs hl⟩
    · exact ⟨_, _, _, Tracker.countAndReact_of_below _ _ hs hl⟩
  | locked => exact ⟨_, _, _, Tracker.countAndReact_of_locked _ _ hs⟩
  | acquire => exact ⟨_, _, _, Tracker.countAndReact_of_acquire _ _ hs⟩
  | lost => exact ⟨_, _, _, Tracker.countAndReact_of_lost_or_free _ _ (.inl hs)⟩
  | free => exact ⟨_, _, _, Tracker.countAndReact_of_lost_or_free _ _ (.inr hs)⟩

/-- What a NOMINAL boundary sets whatever the tracker's state, and what it never changes (R20 to R22). -/
theorem boundary_nominal_tracker_settings (fires : Nat) (s : State) :
    let t := (boundary .nominal s.tb.planned fires s).tracker
    t.window = s.tracker.w ∧ t.w = s.tracker.w ∧ t.mode = s.tracker.mode ∧
      (t.corrected = true ↔ s.flags.pulseHeld ≠ .none) ∧ t.strays = s.tracker.strays ∧
      t.realignments = s.tracker.realignments := by
  dsimp only
  by_cases h : s.flags.pulseHeld = .held
  · rw [boundary_nominal_tracker_of_held fires h, Tracker.inWindow_eq]
    obtain ⟨_, _, _, he⟩ := Tracker.countAndReact_changes (lengthChanges s) (nextNumber s) _
    rw [he, h]
    exact ⟨rfl, rfl, rfl, Tracker.begunNominal_corrected_iff .held s.tracker, rfl, rfl⟩
  · rw [boundary_nominal_tracker_of_not_held fires h]
    obtain ⟨_, _, _, he⟩ := Tracker.countAndReact_changes (lengthChanges s) (nextNumber s) _
    rw [he]
    exact ⟨rfl, rfl, rfl, Tracker.begunNominal_corrected_iff _ s.tracker, rfl, rfl⟩

/-- Settles O13: by the pulse held or not, and by the tracker's state, each case one equation about `countAndReact`. -/
theorem trackerAtNominalBoundary : Obligations.TrackerAtNominalBoundary := by
  intro fires s hr hb
  obtain ⟨hwindow, hw, hmode, hcorrected, hstrays, hrealign⟩ := boundary_nominal_tracker_settings fires s
  refine ⟨_, exec_nominalBoundary_of_due fires hr hb, hwindow, hw, hmode, hcorrected, hstrays, hrealign,
    fun hheld hs => ?_, fun hheld => ?_⟩
  · have hlocked := inWindow_state hs
    rw [boundary_nominal_tracker_of_held fires hheld, Tracker.inWindow_eq, Tracker.countAndReact_of_locked _ _ hlocked,
      ite_lengthChanges, ite_lengthChanges]
    exact ⟨rfl, rfl, rfl, rfl, rfl⟩
  · rw [boundary_nominal_tracker_of_not_held fires hheld]
    refine ⟨?_, ?_, fun hs => ?_, fun hs => ?_, fun hs => ?_, fun hs => ?_, fun hs => ?_⟩
    · obtain ⟨_, _, _, he⟩ := Tracker.countAndReact_changes (lengthChanges s) (nextNumber s) _
      rw [he]
      rfl
    · obtain ⟨_, _, _, he⟩ := Tracker.countAndReact_changes (lengthChanges s) (nextNumber s) _
      rw [he]
      rfl
    · by_cases hl : s.tracker.holdoverLimit ≤ s.tracker.holdover + 1
      · rw [Tracker.countAndReact_of_limit (t := s.tracker.begunNominal _) _ _ hs hl, if_pos hl]
        exact ⟨rfl, rfl, fun _ => rfl⟩
      · rw [Tracker.countAndReact_of_below (t := s.tracker.begunNominal _) _ _ hs hl, if_neg hl, ite_lengthChanges,
          ite_lengthChanges]
        exact ⟨rfl, rfl, fun hne => if_neg fun heq => hne (if_pos heq)⟩
    · exact Tracker.countAndReact_holdover_of_ne (t := s.tracker.begunNominal _) _ _ hs
    · rw [Tracker.countAndReact_of_locked (t := s.tracker.begunNominal _) _ _ hs, ite_lengthChanges, ite_lengthChanges]
      exact ⟨rfl, fun hne => if_neg hne⟩
    · rw [Tracker.countAndReact_of_acquire (t := s.tracker.begunNominal _) _ _ hs, ite_lengthChanges]
      exact ⟨hs, rfl⟩
    · rw [Tracker.countAndReact_of_lost_or_free (t := s.tracker.begunNominal _) _ _ hs]
      exact ⟨rfl, rfl⟩

/-! ### MISS, FRAME_OUT_END and PULSE_END (R13, R27, R81) -/

theorem missDue_of_offset {s : State} (hr : s.phase = .running) (hb : s.flags.boundaryDue = false)
    (he : s.flags.edgeNow = false) (hj : s.flags.missJudged = false)
    (hs : s.tracker.state = .locked ∨ s.tracker.state = .holdover) (ho : s.tb.offset = s.tracker.window + 1)
    (hc : s.tracker.corrected = false) : missDue s = true := by
  rcases hs with hs | hs <;> simp [missDue, offsetReady, running_iff, Tracker.following, hr, hb, he, hj, hs, ho, hc]

theorem exec_frameOutEnd_of_due {s : State} (hr : s.phase = .running) (ht : s.tb.outTimer = 0)
    (ho : s.tb.frameOut = true) :
    exec .frameOutEnd s = .next { s with tb := { s.tb with frameOut := false } } := by
  simp [exec, execFrameOutEnd, frameOutEndDue, running_iff, hr, ht, ho, State.setTb]

theorem exec_pulseEnd_of_due {s : State} {lane : Lane} (hr : s.phase = .running)
    (hp : (s.lanes.get lane).pulseEnd = some s.tb.tick) :
    exec (.pulseEnd lane) s = .next
      { s with lanes := s.lanes.set lane { s.lanes.get lane with level := .low, pulseEnd := none } } := by
  simp [exec, execPulseEnd, pulseEndDue, running_iff, hr, hp, State.setLanes]

/-- Settles O18: each event is due, and its meaning is one write. -/
theorem timedEventsAreTaken : Obligations.TimedEventsAreTaken := by
  refine ⟨fun s hr hb he hj hs ho hc => ?_, fun s hr ht ho => ?_, fun s lane => exec_pulseEnd_of_due⟩
  · have hd := missDue_of_offset hr hb he hj hs ho hc
    dsimp only
    split
    · rename_i hl
      exact exec_miss_of_limit hd hl.1 hl.2
    · rename_i hl
      exact exec_miss_of_counted hd hl
  · exact ⟨_, exec_frameOutEnd_of_due hr ht ho, rfl, by simp [frameOutPin, hr]⟩

end Sys2Proof.Machine
end

section
/-! SUPPORT. Proofs of the statements about the requests that read and set the tracker and read the link counters. -/

namespace Sys2Proof.Machine

open Sys2Proof Sys2Proof.Machine Sys2Proof.Claims

/-! ### The counters' requests (R38, R147) -/

theorem ownLinkStats_of_keep (s : State) :
    ownLinkStats [0] s = (s, body .ok (linkItems s.link.counters s.link.baud)) := rfl

theorem ownLinkStats_of_clear (s : State) :
    ownLinkStats [1] s =
      (s.setLink { s.link with counters := Counters.zero }, body .ok (linkItems s.link.counters s.link.baud)) := rfl

theorem readFlag_eq_none {flag : Byte} (h0 : flag ≠ 0) (h1 : flag ≠ 1) : readFlag flag = none := by
  rw [readFlag, if_neg h0, if_neg h1]

theorem ownLinkStats_of_bad {flag : Byte} (s : State) (h0 : flag ≠ 0) (h1 : flag ≠ 1) :
    ownLinkStats [flag] s = (s, body .badValue []) := by
  simp [ownLinkStats, readFlag_eq_none h0 h1]

theorem ownTrackStatus_of_keep (s : State) : ownTrackStatus [0] s = (s, body .ok (trackStatusItems s.tracker)) := rfl

theorem ownTrackStatus_of_clear (s : State) :
    ownTrackStatus [1] s =
      (s.setTracker { s.tracker with strays := 0, realignments := 0 }, body .ok (trackStatusItems s.tracker)) := rfl

theorem ownTrackStatus_of_bad {flag : Byte} (s : State) (h0 : flag ≠ 0) (h1 : flag ≠ 1) :
    ownTrackStatus [flag] s = (s, body .badValue []) := by
  simp [ownTrackStatus, readFlag_eq_none h0 h1]

/-- Settles O41: each request is carried out by its block, for each of the three kinds of clear flag. -/
theorem countersAreReadAndCleared : Obligations.CountersAreReadAndCleared := by
  refine ⟨fun s r flag h hb => ?_, fun s r flag h hb => ?_⟩
  · have hserve : exec .linkStats s = _ := congrArg Host.Outcome.next (serve_of_fresh (own := ownLinkStats) h)
    rw [hb] at hserve
    refine ⟨fun hf => ?_, fun hf => ?_, fun h0 h1 => ?_⟩
    · rw [hserve, hf, ownLinkStats_of_keep]
      rfl
    · rw [hserve, hf, ownLinkStats_of_clear]
      rfl
    · rw [hserve, ownLinkStats_of_bad _ h0 h1]
      rfl
  · have hserve : exec .trackStatus s = _ := congrArg Host.Outcome.next (serve_of_fresh (own := ownTrackStatus) h)
    rw [hb] at hserve
    refine ⟨fun hf => ?_, fun hf => ?_, fun h0 h1 => ?_⟩
    · rw [hserve, hf, ownTrackStatus_of_keep]
      rfl
    · rw [hserve, hf, ownTrackStatus_of_clear]
      rfl
    · rw [hserve, ownTrackStatus_of_bad _ h0 h1]
      rfl

/-! ### TRACK_CONFIG (R34 to R37) -/

theorem beNat_be2 {n : Nat} (h : n < 65536) : beNat (be2 n) = n := by
  simp only [beNat, be2, be1, List.foldl_cons, List.foldl_nil, BitVec.toNat_ofNat]
  omega

theorem readMode_code (mode : TrackMode) : readMode mode.code = some mode := by
  cases mode <;> rfl

/-- A mode byte above 1 names no mode (R171). -/
theorem readMode_eq_none {m : Byte} (h : ¬ m.toNat ≤ 1) : readMode m = none := by
  have h0 : m ≠ 0 := by rintro rfl; exact h (by decide)
  have h1 : m ≠ 1 := by rintro rfl; exact h (by decide)
  rw [readMode, if_neg h0, if_neg h1]

/-- The ranges of the four parameters of a TRACK_CONFIG (R34). -/
abbrev ParametersInRange (w acq miss h : Nat) : Prop :=
  w ≤ 1023 ∧ 2 ≤ acq ∧ acq ≤ 15 ∧ 1 ≤ miss ∧ miss ≤ 15 ∧ 1 ≤ h

/-- The body of a TRACK_CONFIG (R174). -/
def trackConfigBody (m acq miss : Byte) (w h : BitVec 16) : List Byte :=
  [m] ++ be2 w.toNat ++ [acq, miss] ++ be2 h.toNat

theorem readTrackFields_of_mode {m acq miss : Byte} {w h : BitVec 16} {mode : TrackMode} (hm : readMode m = some mode) :
    readTrackFields (trackConfigBody m acq miss w h) =
      if ParametersInRange w.toNat acq.toNat miss.toNat h.toNat then
        some ⟨mode, w.toNat, acq.toNat, miss.toNat, h.toNat⟩
      else none := by
  have hw : beNat [BitVec.ofNat 8 (w.toNat / 256), BitVec.ofNat 8 w.toNat] = w.toNat := beNat_be2 w.isLt
  have hh : beNat [BitVec.ofNat 8 (h.toNat / 256), BitVec.ofNat 8 h.toNat] = h.toNat := beNat_be2 h.isLt
  simp only [trackConfigBody, be2, be1, List.cons_append, List.nil_append, readTrackFields, hm, hw, hh]

theorem readTrackFields_of_no_mode {m acq miss : Byte} {w h : BitVec 16} (hm : readMode m = none) :
    readTrackFields (trackConfigBody m acq miss w h) = none := by
  simp only [trackConfigBody, be2, be1, List.cons_append, List.nil_append, readTrackFields, hm]

theorem readTrackFields_of_not_ok {m acq miss : Byte} {w h : BitVec 16}
    (hok : ¬ (m.toNat ≤ 1 ∧ ParametersInRange w.toNat acq.toNat miss.toNat h.toNat)) :
    readTrackFields (trackConfigBody m acq miss w h) = none := by
  cases hm : readMode m with
  | none => exact readTrackFields_of_no_mode hm
  | some mode =>
    have hle : m.toNat ≤ 1 := by
      by_contra hgt
      simp [readMode_eq_none hgt] at hm
    rw [readTrackFields_of_mode hm, if_neg fun hp => hok ⟨hle, hp⟩]

/-- A pulse held for this tick's boundary is taken before the request, any other state stays (R36, log 9). -/
theorem applyHeld_eq (s : State) :
    applyHeld s =
      if s.flags.pulseHeld = .held then
        raised .tracker (if s.tracker.state = .holdover then [.trackerState .holdover .locked .pulse (nextFrame s)] else [])
          { s with
            tracker :=
              { s.tracker with
                misses := 0, holdover := 0, lastCorrection := 0
                state := if s.tracker.state = .holdover then .locked else s.tracker.state }
            flags := { s.flags with pulseHeld := .applied } }
      else s := by
  cases h : s.flags.pulseHeld with
  | held =>
    simp only [applyHeld, h, Tracker.inWindow_eq, nextNumber_eq_nextFrame, if_true]
    rfl
  | none => simp [applyHeld, h]
  | applied => simp [applyHeld, h]

theorem applyHeld_mode (s : State) : (applyHeld s).tracker.mode = s.tracker.mode := by
  rw [applyHeld_eq]
  split <;> rfl

theorem applyHeld_takeRequest (s : State) : applyHeld (takeRequest s) = takeRequest (applyHeld s) := by
  rw [applyHeld_eq, applyHeld_eq]
  by_cases h : s.flags.pulseHeld = .held
  · rw [if_pos (show (takeRequest s).flags.pulseHeld = .held from h), if_pos h]
    rfl
  · rw [if_neg (show ¬ (takeRequest s).flags.pulseHeld = .held from h), if_neg h]

theorem configFrame_applyHeld (s : State) : configFrame (applyHeld s) = configFrame s := by
  rw [applyHeld_eq]
  split <;> rfl

/-- The frame of the event: the current one, or, before the tick's boundary, the one that begins (R37, log 7). -/
theorem configFrame_cases (s : State) :
    configFrame s = s.tb.frame ∨ (s.flags.boundaryDue = true ∧ configFrame s = nextFrame s) := by
  unfold configFrame
  split
  · rename_i h
    exact .inr ⟨(Bool.and_eq_true_iff.mp h).1, nextNumber_eq_nextFrame s⟩
  · exact .inl rfl

/-- The tracker with the four parameters of a TRACK_CONFIG (R34). -/
def Tracker.withParameters (f : TrackFields) (t : Tracker) : Tracker :=
  { t with w := f.w, acqCount := f.acqCount, missLimit := f.missLimit, holdoverLimit := f.holdoverLimit }

theorem configure_of_same_mode {s : State} {f : TrackFields} (h : s.tracker.mode = f.mode) :
    configure f s = { s with tracker := s.tracker.withParameters f } := by
  have : (s.tracker.withParameters f).setMode f.mode (configFrame s) = (s.tracker.withParameters f, []) :=
    Tracker.setMode_of_eq _ h
  simp only [Tracker.withParameters] at this
  simp only [configure, this, raise_nil]
  rfl

theorem configure_to_external {s : State} {f : TrackFields} (hf : f.mode = .externalMode)
    (h : s.tracker.mode = .localMode) :
    configure f s =
      raised .tracker [.trackerState s.tracker.state .acquire .config (configFrame s)]
        { s with
          tracker :=
            { s.tracker.withParameters f with mode := .externalMode, state := .acquire, candidate := none } } := by
  have := Tracker.setMode_external (t := s.tracker.withParameters f) (configFrame s) h
  simp only [Tracker.withParameters] at this
  simp only [configure, hf, this]
  rfl

theorem configure_to_local {s : State} {f : TrackFields} (hf : f.mode = .localMode)
    (h : s.tracker.mode = .externalMode) :
    configure f s =
      raised .tracker [.trackerState s.tracker.state .free .config (configFrame s)]
        { s with
          tracker :=
            { s.tracker.withParameters f with mode := .localMode, state := .free, candidate := none } } := by
  have := Tracker.setMode_local (t := s.tracker.withParameters f) (configFrame s) h
  simp only [Tracker.withParameters] at this
  simp only [configure, hf, this]
  rfl

/-- A TRACK_CONFIG with a field out of range is refused, the held pulse having been taken (R34, R36). -/
theorem exec_trackConfig_of_refused {s : State} {r : Request} (h : Fresh .trackConfig r s)
    (hf : readTrackFields r.body = none) :
    exec .trackConfig s = .next
      (replied r [0x04, (applyHeld s).tracker.mode.code, (applyHeld s).tracker.state.code] (applyHeld s)) := by
  refine congrArg Host.Outcome.next ((serve_of_fresh (own := ownTrackConfig) h).trans ?_)
  simp only [ownTrackConfig, applyHeld_takeRequest, hf, answer_takeRequest]
  rfl

/-- A TRACK_CONFIG in range is carried out, the held pulse having been taken (R34 to R36). -/
theorem exec_trackConfig_of_accepted {s : State} {r : Request} {f : TrackFields} (h : Fresh .trackConfig r s)
    (hf : readTrackFields r.body = some f) :
    exec .trackConfig s = .next
      (replied r
        [0x00, (configure f (applyHeld s)).tracker.mode.code, (configure f (applyHeld s)).tracker.state.code]
        (configure f (applyHeld s))) := by
  have htake : configure f (takeRequest (applyHeld s)) = takeRequest (configure f (applyHeld s)) := rfl
  refine congrArg Host.Outcome.next ((serve_of_fresh (own := ownTrackConfig) h).trans ?_)
  simp only [ownTrackConfig, applyHeld_takeRequest, hf, htake, answer_takeRequest]
  rfl

/-- Settles O44: the held pulse is taken first, then the body's fields decide between refusal, parameters alone, and a change
of mode. -/
theorem trackConfigSetsTheTracker : Obligations.TrackConfigSetsTheTracker := by
  intro s s1 r m acq miss w h hfresh hbody hs1
  rw [← applyHeld_eq] at hs1
  subst hs1
  have hread : ∀ {mode : TrackMode}, readMode m = some mode →
      ParametersInRange w.toNat acq.toNat miss.toNat h.toNat →
      readTrackFields r.body = some ⟨mode, w.toNat, acq.toNat, miss.toNat, h.toNat⟩ := by
    intro mode hm hp
    rw [hbody]
    exact (readTrackFields_of_mode hm).trans (if_pos hp)
  refine ⟨fun hok => ?_, fun hok hm => ?_, configFrame s, configFrame_cases s, fun hok hm hl => ?_, fun hok hm he => ?_⟩
  · have hf : readTrackFields r.body = none := hbody ▸ readTrackFields_of_not_ok hok
    exact exec_trackConfig_of_refused hfresh hf
  · rw [exec_trackConfig_of_accepted hfresh (hread (hm ▸ readMode_code _) hok.2),
      configure_of_same_mode (applyHeld_mode s)]
    rfl
  · have hmode : readMode m = some .externalMode := by rw [hm]; rfl
    rw [exec_trackConfig_of_accepted hfresh (hread hmode hok.2),
      configure_to_external rfl ((applyHeld_mode s).trans hl), configFrame_applyHeld]
    rfl
  · have hmode : readMode m = some .localMode := by rw [hm]; rfl
    rw [exec_trackConfig_of_accepted hfresh (hread hmode hok.2),
      configure_to_local rfl ((applyHeld_mode s).trans he), configFrame_applyHeld]
    rfl

end Sys2Proof.Machine
end

section
/-! SUPPORT. Proof of the statement about the restart tick. -/

namespace Sys2Proof.Machine

open Sys2Proof Sys2Proof.Machine Sys2Proof.Claims

/-! ### The restart tick (R39, R150, log 14) -/

theorem running_of_restartReady {s : State} (h : restartReady s = true) : s.phase = .running := by
  simp only [restartReady, Bool.and_eq_true, running_iff] at h
  exact h.1

theorem settleRestart_of_ready {s : State} (h : restartReady s = true) : settleRestart s = restartEffect s := by
  simp [settleRestart, h]

/-- A pulse of the restart tick finds LOCAL mode, and nothing used of the tick (R39). -/
theorem exec_referencePulse_of_restartReady {s : State} (fires : Nat) (h : restartReady s = true) :
    exec (.referencePulse ⟨false, fires⟩) s = .next (pulsed (restartEffect s)) := by
  have hw : edgeWaits (restartEffect s) = false := rfl
  simp only [exec, execReferencePulse, running_iff.mpr (running_of_restartReady h), settleRestart_of_ready h, hw, if_true,
    Bool.or_false, Bool.false_eq_true, if_false]
  exact congrArg _ (takePulse_of_local (s := pulsed (restartEffect s)) fires rfl)

theorem exec_late_referencePulse_of_restartReady {s : State} (fires : Nat) (h : restartReady s = true) :
    exec (.referencePulse ⟨true, fires⟩) s = .next
      { restartEffect s with pins := { (restartEffect s).pins with frameInEdge := true } } := by
  simp only [exec, execReferencePulse, running_iff.mpr (running_of_restartReady h), settleRestart_of_ready h, if_true,
    Bool.true_or]
  rfl

theorem itemNow_of_byteNow {start : Tick} {s : State} (h : ByteNow start s) : itemNow s = true := by
  obtain ⟨hr, hv, hc, ht⟩ := h
  have hbit : bitNow 9 s = true := by
    simp only [bitNow, hc]
    exact decide_eq_true ht
  simp [itemNow, receiving, running_iff, hr, hv, hbit]

/-- The link port of the restarted device after a character whose byte has been taken (R150). -/
theorem restartEffect_byteTaken {s : State} {start : Tick} (hc : s.link.character = .reading start) :
    (restartEffect s).link.byteTaken = { (restartEffect s).link with character := .stopping (start - s.tb.tick) } := by
  rw [Link.byteTaken, restartEffect_character, hc]
  rfl

theorem awaited_of_hunting {s : State} (hp : s.link.parser.state ≠ .crcLo) (ho : s.flags.oldParser = none) :
    awaited s = none := by
  simp [awaited, hp, ho]

theorem awaited_of_crcLo {s : State} (hp : s.link.parser.state = .crcLo) : awaited s = some s.link.parser := by
  simp [awaited, hp]

/-- The state after the last byte of a frame, with the link counters given (R145). -/
def frameEnded (counters : Counters) (s : State) : State :=
  { s with
    link := { s.link.byteTaken.toHunt with counters := counters }
    flags := { s.flags with oldParser := none } }

/-- A frame that ends on the restart tick leaves the restart as it would have been, but for its counter (R150). -/
theorem settleRestart_frameEnded {s : State} {start : Tick} (counters : Counters) (h : restartReady s = true)
    (hc : s.link.character = .reading start) :
    settleRestart (frameEnded counters s) =
      { restartEffect s with
        link := { (restartEffect s).link with character := .stopping (start - s.tb.tick), counters := counters }
        flags := { (restartEffect s).flags with oldParser := none } } := by
  have hready : restartReady (frameEnded counters s) = true := h
  have hchar : (frameEnded counters s).link.character = .stopping start := by
    simp [frameEnded, Link.toHunt, Link.byteTaken, hc, RxChar.taken]
  rw [settleRestart_of_ready hready, restartEffect, hchar]
  rfl

theorem exec_receiveFrame_of_unequal {s : State} {p : Parser} {low : Byte} (hi : itemNow s = true)
    (ha : awaited s = some p) (hcrc : p.crcHigh ++ low ≠ p.crc) :
    exec (.receiveFrame low) s = .next (settleRestart (frameEnded s.link.counters.addCrcError s)) := by
  have hcrc' : receivedCrc p low ≠ p.crc := hcrc
  simp only [exec, execReceiveFrame, hi, ha, if_neg hcrc', if_true]
  rfl

theorem exec_receiveFrame_of_equal {s : State} {p : Parser} {low : Byte} (hi : itemNow s = true)
    (ha : awaited s = some p) (hcrc : p.crcHigh ++ low = p.crc) :
    exec (.receiveFrame low) s = .next
      (intake ⟨p.kind, p.tag, p.body, p.crc⟩ (settleRestart (frameEnded s.link.counters.addFramesOk s))) := by
  have hcrc' : receivedCrc p low = p.crc := hcrc
  simp only [exec, execReceiveFrame, hi, ha, if_pos hcrc', if_true]
  rfl

theorem exec_goodByte_of_restartReady {s : State} {start : Tick} (h : restartReady s = true) (hn : ByteNow start s)
    (ha : awaited s = none) :
    exec (.goodByte 0xA5) s = .next
      { restartEffect s with
        link :=
          { (restartEffect s).link with
            character := .stopping (start - s.tb.tick)
            parser := ⟨.len, 0, 0, 0, [], 0xFFFF, 0⟩, gap := some 0 } } := by
  have ⟨_, _, hc, _⟩ := hn
  have hadvance : (restartEffect s).link.parser.advance 0xA5 = some ⟨.len, 0, 0, 0, [], 0xFFFF, 0⟩ := rfl
  simp only [exec, execGoodByte, itemNow_of_byteNow hn, ha, settleRestart_of_ready h, hadvance, Option.isNone_none,
    Bool.and_true, if_true, restartEffect_byteTaken hc]
  rfl

theorem exec_noiseByte_of_restartReady {s : State} {start : Tick} {b : Byte} (h : restartReady s = true)
    (hn : ByteNow start s) (ha : awaited s = none) (hb : b ≠ 0xA5) :
    exec (.noiseByte b) s = .next
      { restartEffect s with
        link :=
          { (restartEffect s).link with
            character := .stopping (start - s.tb.tick)
            counters := { s.link.counters with framingErrors := satSucc s.link.counters.framingErrors } } } := by
  have ⟨_, _, hc, _⟩ := hn
  have hsync : (b != Config.syncByte) = true := bne_iff_ne.mpr hb
  have hhunt : (restartEffect s).link.parser.state = .hunt := rfl
  simp only [exec, execNoiseByte, itemNow_of_byteNow hn, ha, settleRestart_of_ready h, hsync, hhunt, Option.isNone_none,
    Bool.and_true, if_true, restartEffect_byteTaken hc]
  rfl

theorem exec_stopBitError_of_restartReady {s : State} {start : Tick} (h : restartReady s = true) (hn : ByteNow start s) :
    exec .stopBitError s = .next
      { restartEffect s with
        link :=
          { (restartEffect s).link with
            character := .idle, receiver := .waitingHigh
            counters := { s.link.counters with framingErrors := satSucc s.link.counters.framingErrors } }
        flags := { (restartEffect s).flags with oldParser := none, rxdSampled := true } } := by
  simp only [exec, execStopBitError, itemNow_of_byteNow hn, settleRestart_of_ready h, if_true]
  rfl

/-- Settles O9: whatever reaches FRAME_IN or RXD on the restart tick is judged on the state that `restartEffect` gives. -/
theorem restartComesFirstOnItsTick : Obligations.RestartComesFirstOnItsTick := by
  refine ⟨fun s u fires h hu => ?_, fun s u start b h hu hn => ?_⟩
  · cases (exec_restartTakesEffect_of_ready h).symm.trans hu
    exact ⟨exec_referencePulse_of_restartReady fires h, exec_late_referencePulse_of_restartReady fires h⟩
  · cases (exec_restartTakesEffect_of_ready h).symm.trans hu
    have ⟨_, _, hc, _⟩ := hn
    have hi := itemNow_of_byteNow hn
    refine ⟨fun hp ho => ⟨fun hb => ?_, fun hb => ?_⟩, exec_stopBitError_of_restartReady h hn,
      fun hp => ⟨fun hcrc => ?_, fun hcrc => ?_⟩⟩
    · rw [hb]
      exact exec_goodByte_of_restartReady h hn (awaited_of_hunting hp ho)
    · exact exec_noiseByte_of_restartReady h hn (awaited_of_hunting hp ho) hb
    · rw [exec_receiveFrame_of_unequal hi (awaited_of_crcLo hp) hcrc, settleRestart_frameEnded _ h hc]
      rfl
    · rw [exec_receiveFrame_of_equal hi (awaited_of_crcLo hp) hcrc, settleRestart_frameEnded _ h hc]
      rfl

end Sys2Proof.Machine
end

section
/-! SUPPORT. Every step keeps the law of the frame and its schedule. -/

namespace Sys2Proof.Machine

open Sys2Proof Sys2Proof.Machine Sys2Proof.Claims

/-! ### The frame law as a law of the frame blocks (R2 to R4, R20, R43, R75, R76) -/

/-- The windows are in range (R20, R34): `WindowsInRange` of the tracker alone. -/
def Tracker.WindowsBounded (t : Tracker) : Prop := t.w ≤ 1023 ∧ t.window ≤ 1023

/-- The running frame as the timebase paces it: the offset below P, and P at most 1,023 above the starting length (R2 to R4). -/
def Timebase.Paced (tb : Timebase) : Prop :=
  tb.offset < tb.planned ∧ tb.startLen ≤ tb.planned ∧ tb.planned ≤ tb.startLen + 1023

/-- No entry of the executor's list stands, unreached, below an offset (R76). -/
def Executor.ReachedBelow (x : Executor) (entries : List Entry) (offset : Nat) : Prop :=
  x.cursor ≤ entries.length ∧ ∀ e ∈ entries.drop x.cursor, offset ≤ e.offset

/-- `FrameLaw` of the frame blocks. -/
structure FrameBlocks.Lawful (b : FrameBlocks) : Prop where
  ordered : b.store.bankA.ordered ∧ b.store.bankB.ordered
  windows : b.tracker.WindowsBounded
  startLen : b.tb.startLen = b.store.activeBank.length
  bank : b.exec.bank = b.store.active
  frame : b.exec.frame = b.tb.frame
  paced : b.tb.Paced
  reached : b.exec.ReachedBelow (b.store.bank b.exec.bank).entries b.tb.offset

theorem frameLaw_iff (s : State) : FrameLaw s ↔ (frameBlocks s).Lawful := by
  constructor
  · rintro ⟨ordered, windows, ⟨startLen, bank, frame, offset, low, high⟩, reached⟩
    exact ⟨ordered, windows, startLen, bank, frame, ⟨offset, low, high⟩, reached⟩
  · rintro ⟨ordered, windows, startLen, bank, frame, ⟨offset, low, high⟩, reached⟩
    exact ⟨ordered, windows, ⟨startLen, bank, frame, offset, low, high⟩, reached⟩

theorem FrameBlocks.Lawful.running_sorted {b : FrameBlocks} (h : b.Lawful) :
    (b.store.bank b.exec.bank).entries.Pairwise fun e f => keyBefore e.offset e.lane f.offset f.lane = true := by
  obtain ⟨-, -, hsorted, -⟩ := bank_ordered h.ordered b.exec.bank
  exact hsorted

theorem FrameBlocks.Lawful.minLength_le {b : FrameBlocks} (h : b.Lawful) : 10000 ≤ b.tb.startLen := by
  obtain ⟨⟨hmin, -⟩, -⟩ := bank_ordered h.ordered b.store.active
  rw [h.startLen]
  exact hmin

/-! ### Replacing one block -/

/-- Another tracker with windows in range keeps the law. -/
theorem FrameBlocks.Lawful.withTracker {b : FrameBlocks} (h : b.Lawful) {t : Tracker} (ht : t.WindowsBounded) :
    { b with tracker := t }.Lawful :=
  ⟨h.ordered, ht, h.startLen, h.bank, h.frame, h.paced, h.reached⟩

/-- Another planned length in range, above the offset, keeps the law (R4). -/
theorem FrameBlocks.Lawful.withPlanned {b : FrameBlocks} (h : b.Lawful) {planned : Nat}
    (hp : { b.tb with planned := planned }.Paced) : { b with tb := { b.tb with planned := planned } }.Lawful :=
  ⟨h.ordered, h.windows, h.startLen, h.bank, h.frame, hp, h.reached⟩

/-- An edit of the shadow touches neither the active bank nor the list that the executor runs (R45). -/
theorem FrameBlocks.Lawful.withShadow {b : FrameBlocks} (h : b.Lawful) {bank : Bank} (hb : bank.ordered) :
    { b with store := b.store.setShadow bank }.Lawful where
  ordered := setShadow_ordered h.ordered hb
  windows := h.windows
  startLen := by
    rw [Store.activeBank, active_setShadow, bank_setShadow _ _ _ rfl]
    exact h.startLen
  bank := h.bank.trans (active_setShadow ..).symm
  frame := h.frame
  paced := h.paced
  reached := by
    rw [bank_setShadow _ _ _ h.bank]
    exact h.reached

/-- Another commit state keeps the law. -/
theorem FrameBlocks.Lawful.withCommit {b : FrameBlocks} (h : b.Lawful) (c : CommitState) :
    { b with store := { b.store with commit := c } }.Lawful where
  ordered := h.ordered
  windows := h.windows
  startLen := h.startLen
  bank := h.bank
  frame := h.frame
  paced := h.paced
  reached := h.reached

/-! ### What the tracker's operations leave of the windows (R20, R34) -/

theorem Tracker.WindowsBounded.of_eq {t u : Tracker} (h : t.WindowsBounded) (hu : u.w = t.w ∧ u.window = t.window) :
    u.WindowsBounded := by
  obtain ⟨hw, hwindow⟩ := hu
  rw [Tracker.WindowsBounded, hw, hwindow]
  exact h

theorem Tracker.WindowsBounded.inWindow {t : Tracker} (h : t.WindowsBounded) (correction : Int) (frame : FrameNo) :
    (t.inWindow correction frame).1.WindowsBounded :=
  h.of_eq (inWindow_windows ..)

theorem Tracker.setMode_windows (mode : TrackMode) (frame : FrameNo) (t : Tracker) :
    (t.setMode mode frame).1.w = t.w ∧ (t.setMode mode frame).1.window = t.window := by
  unfold Tracker.setMode
  split <;> exact ⟨rfl, rfl⟩

/-- The fields of a TRACK_CONFIG that are read are in range (R34). -/
theorem readTrackFields_w_le {b : List Byte} {f : TrackFields} (h : readTrackFields b = some f) : f.w ≤ 1023 := by
  unfold readTrackFields at h
  split at h
  · split at h
    · split at h
      · rename_i hrange
        injection h with h
        exact h ▸ hrange.1
      · cases h
    · cases h
  · cases h

/-! ### The boundary (R3, R7, R75) -/

theorem atOffset_length_le (x : Nat) (es : List Entry) : (atOffset x es).length ≤ es.length :=
  (List.takeWhile_sublist _).length_le

/-- A boundary begins a frame on the bank then active, with every entry at offset 0 reached, whatever the frame before it. -/
theorem boundary_lawful {s : State} (cause : Cause) (length fires : Nat) (h : (frameBlocks s).Lawful) :
    (frameBlocks (boundary cause length fires s)).Lawful := by
  obtain ⟨hw, hwindow⟩ := boundary_windows (noticeOf cause length s) s.flags.pulseHeld
    (decide ((s.store.boundary (noticeOf cause length s)).activeBank.length ≠ s.tb.startLen)) s.tb.planned
    (discardCount cause s) s.tracker
  obtain ⟨hA, hB⟩ := storeBoundary_banks (noticeOf cause length s) s.store
  have hordered : (s.store.boundary (noticeOf cause length s)).bankA.ordered ∧
      (s.store.boundary (noticeOf cause length s)).bankB.ordered := by
    rw [hA, hB]
    exact h.ordered
  obtain ⟨⟨hmin, -⟩, -⟩ := bank_ordered hordered (s.store.boundary (noticeOf cause length s)).active
  exact {
    ordered := hordered
    windows := ⟨hw ▸ h.windows.1, hwindow ▸ h.windows.1⟩
    startLen := rfl
    bank := rfl
    frame := rfl
    paced := ⟨Nat.lt_of_lt_of_le (by decide : 0 < 10000) hmin, Nat.le_refl _, Nat.le_add_right _ _⟩
    reached := ⟨atOffset_length_le .., fun _ _ => Nat.zero_le _⟩ }

/-! ### Reference pulses and timed events -/

/-- A late correction stretches P by at most the window (R4, R23). -/
theorem lateCorrection_lawful {s : State} (hl : pulseLate s = true) (h : (frameBlocks s).Lawful) :
    (frameBlocks (lateCorrection s)).Lawful := by
  have hoffset : s.tb.offset ≤ s.tracker.window := (pulseLate_iff.mp hl).1
  have hwindow : s.tracker.window ≤ 1023 := h.windows.2
  have hmin : 10000 ≤ s.tb.startLen := h.minLength_le
  have hpaced : { s.tb with planned := s.tb.startLen + s.tb.offset }.Paced := by
    refine ⟨?_, ?_, ?_⟩ <;> dsimp only <;> omega
  exact (h.withTracker (Tracker.WindowsBounded.inWindow (t := { s.tracker with corrected := true }) h.windows _ _)).withPlanned
    hpaced

theorem pulseFollowing_lawful {s : State} (fires : Nat) (h : (frameBlocks s).Lawful) :
    (frameBlocks (pulseFollowing fires s)).Lawful := by
  unfold pulseFollowing
  split
  · exact h
  · split
    · rename_i hl
      exact lateCorrection_lawful hl h
    · split
      · exact boundary_lawful _ _ _ h
      · exact h.withTracker h.windows

/-- A realignment at the frame's start keeps the frame and the cursor (R30, log 10). -/
theorem realignAtStart_lawful {s : State} (h : (frameBlocks s).Lawful) : (frameBlocks (realignAtStart s)).Lawful := by
  unfold realignAtStart
  split
  · exact ⟨h.ordered, h.windows, h.startLen, h.bank, h.frame, h.paced, h.reached⟩
  · exact h

theorem pulseAcquire_lawful {s : State} (fires : Nat) (h : (frameBlocks s).Lawful) :
    (frameBlocks (pulseAcquire fires s)).Lawful := by
  unfold pulseAcquire
  split
  · split
    · exact boundary_lawful _ _ _ h
    · split
      · exact realignAtStart_lawful h
      · exact boundary_lawful _ _ _ h
  · exact h.withTracker h.windows

theorem takePulse_lawful {s : State} (fires : Nat) (h : (frameBlocks s).Lawful) :
    (frameBlocks (takePulse fires s)).Lawful := by
  unfold takePulse
  split
  · exact h
  · split
    · exact pulseFollowing_lawful fires h
    · exact pulseFollowing_lawful fires h
    · exact pulseAcquire_lawful fires h
    · exact h.withTracker h.windows
    · exact h

/-- The law at every reset (R14, R39, R59, R88). -/
theorem resetFrameBlocks_lawful : resetFrameBlocks.Lawful := by
  obtain ⟨_, _, _, _, _, hframe, _⟩ := resetKeepsEveryLaw
  exact (frameLaw_iff State.reset).mp hframe

theorem settleRestart_lawful {s : State} (h : (frameBlocks s).Lawful) : (frameBlocks (settleRestart s)).Lawful := by
  rcases settleRestart_frameBlocks s with hs | hs
  · exact hs ▸ h
  · exact hs ▸ resetFrameBlocks_lawful

theorem execReferencePulse_lawful {s t : State} (edge : PulseEdge) (h : (frameBlocks s).Lawful)
    (e : exec (.referencePulse edge) s = .next t) : (frameBlocks t).Lawful := by
  have hs := settleRestart_lawful h
  simp only [exec, execReferencePulse] at e
  cases e
  split
  · split
    · exact hs
    · exact takePulse_lawful edge.fires hs
  · exact h

theorem execNominalBoundary_lawful {s t : State} (fires : Nat) (h : (frameBlocks s).Lawful)
    (e : exec (.nominalBoundary fires) s = .next t) : (frameBlocks t).Lawful := by
  simp only [exec, execNominalBoundary] at e
  cases e
  split
  · exact boundary_lawful _ _ _ h
  · exact h

theorem execMiss_lawful {s t : State} (h : (frameBlocks s).Lawful) (e : exec .miss s = .next t) :
    (frameBlocks t).Lawful := by
  by_cases hd : missDue s = true
  · by_cases hl : s.tracker.state = .locked ∧ s.tracker.missLimit ≤ satSucc s.tracker.misses
    · cases (exec_miss_of_limit hd hl.1 hl.2).symm.trans e
      exact h.withTracker h.windows
    · cases (exec_miss_of_counted hd hl).symm.trans e
      exact h.withTracker h.windows
  · cases (exec_miss_of_not_due hd).symm.trans e
    exact h

theorem execFrameOutEnd_lawful {s t : State} (h : (frameBlocks s).Lawful) (e : exec .frameOutEnd s = .next t) :
    (frameBlocks t).Lawful := by
  simp only [exec, execFrameOutEnd] at e
  cases e
  split
  · exact ⟨h.ordered, h.windows, h.startLen, h.bank, h.frame, h.paced, h.reached⟩
  · exact h

/-- Moving the cursor past the entries at one offset leaves a shorter list unreached (R76). -/
theorem Executor.ReachedBelow.pass {x : Executor} {entries : List Entry} {offset : Nat} (h : x.ReachedBelow entries offset)
    (o : Nat) :
    { x with cursor := x.cursor + (atOffset o (entries.drop x.cursor)).length }.ReachedBelow entries offset := by
  obtain ⟨hcursor, hbelow⟩ := h
  have hlen := atOffset_length_le o (entries.drop x.cursor)
  rw [List.length_drop] at hlen
  refine ⟨by dsimp only; omega, fun e he => hbelow e ?_⟩
  rw [← List.drop_drop] at he
  exact List.mem_of_mem_drop he

theorem execEntryFire_lawful {s t : State} (h : (frameBlocks s).Lawful) (e : exec .entryFire s = .next t) :
    (frameBlocks t).Lawful := by
  simp only [exec, execEntryFire] at e
  cases e
  split
  · split
    · exact h
    · exact ⟨h.ordered, h.windows, h.startLen, h.bank, h.frame, h.paced, h.reached.pass s.tb.offset⟩
  · exact h

/-! ### The requests of the tracker, the timebase and the store -/

/-- A dispatch keeps the law where its owning block does. -/
theorem serve_lawful {k : ReqKind} {own : List Byte → State → State × List Byte}
    (h : ∀ b s, (frameBlocks s).Lawful → (frameBlocks (own b s).1).Lawful) {s : State} (hs : (frameBlocks s).Lawful) :
    (frameBlocks (serve k own s)).Lawful :=
  serve_keeps (P := fun s => (frameBlocks s).Lawful) (fun _ h => h) (fun _ _ _ h => h) (fun _ _ h => h) h s hs

theorem applyHeld_lawful {s : State} (h : (frameBlocks s).Lawful) : (frameBlocks (applyHeld s)).Lawful := by
  unfold applyHeld
  split
  · exact h.withTracker (h.windows.inWindow ..)
  · exact h
  · exact h

theorem configure_lawful {s : State} {f : TrackFields} (hw : f.w ≤ 1023) (h : (frameBlocks s).Lawful) :
    (frameBlocks (configure f s)).Lawful := by
  have hset : (s.tracker.withParameters f).WindowsBounded := ⟨hw, h.windows.2⟩
  exact h.withTracker (hset.of_eq (Tracker.setMode_windows f.mode (configFrame s) _))

theorem ownTrackConfig_lawful {s : State} (b : List Byte) (h : (frameBlocks s).Lawful) :
    (frameBlocks (ownTrackConfig b s).1).Lawful := by
  have ha := applyHeld_lawful h
  unfold ownTrackConfig
  dsimp only
  split
  · exact ha
  · rename_i hf
    exact configure_lawful (readTrackFields_w_le hf) ha

theorem ownTrackStatus_lawful {s : State} (b : List Byte) (h : (frameBlocks s).Lawful) :
    (frameBlocks (ownTrackStatus b s).1).Lawful := by
  unfold ownTrackStatus
  split
  · exact h
  · rename_i clear _
    cases clear with
    | true => exact h.withTracker h.windows
    | false => exact h

theorem ownFrameRenumber_lawful {s : State} (b : List Byte) (h : (frameBlocks s).Lawful) :
    (frameBlocks (ownFrameRenumber b s).1).Lawful := by
  unfold ownFrameRenumber
  split
  · exact h
  · exact ⟨h.ordered, h.windows, h.startLen, h.bank, h.frame, h.paced, h.reached⟩

theorem ownCommit_lawful {s : State} (b : List Byte) (h : (frameBlocks s).Lawful) :
    (frameBlocks (ownCommit b s).1).Lawful := by
  unfold ownCommit
  split
  · exact h
  · split
    · exact h
    · split
      · exact h
      · exact h.withCommit _

theorem ownCommitCancel_lawful {s : State} (b : List Byte) (h : (frameBlocks s).Lawful) :
    (frameBlocks (ownCommitCancel b s).1).Lawful := by
  unfold ownCommitCancel
  split
  · exact h.withCommit _
  · exact h

/-- An edit whose new bank keeps the rule of its list keeps the law (R43, R45). -/
theorem editShadow_lawful {absent : List Byte} {edit : Bank → Except Status (List Byte × Bank)} {s : State}
    (h : (frameBlocks s).Lawful)
    (hedit : ∀ {x bank}, s.store.shadow.ordered → edit s.store.shadow = .ok (x, bank) → bank.ordered) :
    (frameBlocks (editShadow absent edit s).1).Lawful :=
  editShadow_elim (P := fun t => (frameBlocks t).Lawful) s
    (fun _ _ e => h.withShadow (hedit (bank_ordered h.ordered _) e)) h

theorem clearedBank_ordered {bank : Bank} (h : bank.ordered) : ({ bank with entries := [] } : Bank).ordered :=
  sublist_ordered h (List.nil_sublist _)

/-! ### Every step -/

/-- The writers of the frame blocks keep the law. -/
theorem writer_keeps_lawful (c : Instr) (s t : State) (hc : writesFrameBlocks c = true) (h : (frameBlocks s).Lawful)
    (e : exec c s = .next t) : (frameBlocks t).Lawful := by
  cases c with
  | referencePulse edge => exact execReferencePulse_lawful edge h e
  | nominalBoundary fires => exact execNominalBoundary_lawful fires h e
  | miss => exact execMiss_lawful h e
  | frameOutEnd => exact execFrameOutEnd_lawful h e
  | entryFire => exact execEntryFire_lawful h e
  | trackConfig => cases e; exact serve_lawful (fun b _ => ownTrackConfig_lawful b) h
  | trackStatus => cases e; exact serve_lawful (fun b _ => ownTrackStatus_lawful b) h
  | frameRenumber => cases e; exact serve_lawful (fun b _ => ownFrameRenumber_lawful b) h
  | commit => cases e; exact serve_lawful (fun b _ => ownCommit_lawful b) h
  | commitCancel => cases e; exact serve_lawful (fun b _ => ownCommitCancel_lawful b) h
  | entryAdd => cases e; exact serve_lawful (fun _ _ hs => editShadow_lawful hs addEntry_ordered) h
  | entryRemove => cases e; exact serve_lawful (fun _ _ hs => editShadow_lawful hs removeEntry_ordered) h
  | bankLength => cases e; exact serve_lawful (fun _ _ hs => editShadow_lawful hs lengthenBank_ordered) h
  | bankClear =>
    cases e
    refine serve_lawful (fun _ _ hs => editShadow_lawful hs fun hb e => ?_) h
    cases e
    exact clearedBank_ordered hb
  | bankCopy =>
    cases e
    refine serve_lawful (fun _ _ hs => editShadow_lawful hs fun _ e => ?_) h
    cases e
    exact bank_ordered hs.ordered _
  | _ => cases hc

/-- The tick's clock adds at most one to the offset, and keeps it below P (R2). -/
theorem Timebase.tickOn_paced {tb : Timebase} (h : tb.Paced) : tb.tickOn.Paced := by
  obtain ⟨hoffset, hlow, hhigh⟩ := h
  refine ⟨?_, hlow, hhigh⟩
  simp only [Timebase.tickOn]
  split <;> omega

theorem Timebase.tickOn_offset_le (tb : Timebase) : tb.tickOn.offset ≤ tb.offset + 1 := by
  simp only [Timebase.tickOn]
  split <;> omega

theorem dueIf_eq_nil {condition : Bool} {c : Instr} : dueIf condition c = [] ↔ condition = false := by
  cases condition <;> simp [dueIf]

/-- Where nothing has to be taken, the boundary, the sampled pulse and the entries of the tick have been taken. -/
theorem nothing_due_of_mandatory_nil {s : State} (hr : s.phase = .running) (h : mandatory s = []) :
    s.flags.boundaryDue = false ∧ s.flags.edgeNow = false ∧ entryFireDue s = false := by
  simp only [mandatory, frameEventsDue, List.append_eq_nil_iff, List.map_eq_nil_iff, dueIf_eq_nil, running_iff.mpr hr,
    Bool.true_and] at h
  obtain ⟨⟨⟨⟨⟨⟨⟨⟨⟨⟨hedge, hboundary⟩, -⟩, -⟩, hfire⟩, -⟩, -⟩, -⟩, -⟩, -⟩, -⟩ := h
  exact ⟨hboundary, hedge, hfire⟩

/-- An unreached entry at the present offset is due to fire: the list is in its order, so it stands at the cursor (R43, R76). -/
theorem offset_lt_of_nothing_due {s : State} (hr : s.phase = .running) (h : (frameBlocks s).Lawful)
    (hm : mandatory s = []) : ∀ e ∈ unreached s, s.tb.offset < e.offset := by
  obtain ⟨hboundary, hedge, hfire⟩ := nothing_due_of_mandatory_nil hr hm
  have hbelow : ∀ e ∈ unreached s, s.tb.offset ≤ e.offset := h.reached.2
  have hsorted : (unreached s).Pairwise fun e f => keyBefore e.offset e.lane f.offset f.lane = true :=
    h.running_sorted.sublist (List.drop_sublist ..)
  cases hu : unreached s with
  | nil => simp
  | cons first rest =>
    have hne : first.offset ≠ s.tb.offset := by
      intro heq
      simp [entryFireDue, offsetReady, running_iff.mpr hr, hboundary, hedge, hu, heq] at hfire
    rw [hu] at hbelow hsorted
    have hfirst : s.tb.offset < first.offset := Nat.lt_of_le_of_ne (hbelow first List.mem_cons_self) hne.symm
    intro e he
    rcases List.mem_cons.mp he with rfl | he
    · exact hfirst
    · have hkey := (keyBefore_iff ..).mp (List.rel_of_pairwise_cons hsorted he)
      omega

/-- A tick begins only where nothing is left to take, so the offset it counts to passes no entry by (R2, R76). -/
theorem beginTick_lawful {s : State} (hr : s.phase = .running) (h : (frameBlocks s).Lawful) (hm : mandatory s = []) :
    (frameBlocks (beginTick s)).Lawful where
  ordered := h.ordered
  windows := h.windows
  startLen := h.startLen
  bank := h.bank
  frame := h.frame
  paced := Timebase.tickOn_paced h.paced
  reached := ⟨h.reached.1, fun e he => (s.tb.tickOn_offset_le).trans (offset_lt_of_nothing_due hr h hm e he)⟩

theorem step_lawful {s t : State} (h : (frameBlocks s).Lawful) (e : step s = .next t) : (frameBlocks t).Lawful := by
  have hexec : ∀ {c : Instr} {s t : State}, (frameBlocks s).Lawful → exec c s = .next t → (frameBlocks t).Lawful :=
    exec_keeps_of_writers resetFrameBlocks_lawful writer_keeps_lawful
  cases hp : s.pending with
  | cons c rest =>
    simp only [step, hp] at e
    exact hexec (s := { s with pending := rest }) h e
  | nil =>
    rw [step_of_empty hp] at e
    by_cases hr : s.phase = .running
    · obtain ⟨c, _, hs⟩ | ⟨src, _, hs⟩ | ⟨hm, hs⟩ := ownStep_cases hr
      · exact hexec (s := { s with choices := s.choices + 1 }) h (hs ▸ e)
      · cases hs.symm.trans e
        rw [enter_frameBlocks]
        exact h
      · cases hs.symm.trans e
        exact beginTick_lawful (s := s) hr h hm
    · cases (ownStep_of_not_running hr).symm.trans e
      exact h

/-- Settles O59: the law is one of the frame blocks, it holds at a reset, every writer keeps it, and a tick begins only where
nothing is left to take. -/
theorem stepKeepsFrameLaw : Obligations.StepKeepsFrameLaw := fun s t h e =>
  (frameLaw_iff t).mpr (step_lawful ((frameLaw_iff s).mp h) e)

end Sys2Proof.Machine
end

section
/-! SUPPORT. Proofs of the statements about the requests that edit and read the banks. -/

namespace Sys2Proof.Machine

open Sys2Proof Sys2Proof.Machine Sys2Proof.Claims

/-! ### The shadow bank (R45) -/

theorem activeBank_setShadow (st : Store) (b : Bank) : (st.setShadow b).activeBank = st.activeBank := by
  rw [Store.activeBank, active_setShadow, bank_setShadow _ _ _ rfl, Store.activeBank]

theorem shadow_setShadow (st : Store) (b : Bank) : (st.setShadow b).shadow = b := by
  obtain ⟨_, _, active, _⟩ := st
  cases active <;> rfl

theorem shadowId_setShadow (st : Store) (b : Bank) : (st.setShadow b).shadowId = st.shadowId := by
  rw [Store.shadowId, active_setShadow, Store.shadowId]

/-- The items of an edit's reply after the shadow has become `b` (R45). -/
theorem editItems_setShadow (st : Store) (b : Bank) :
    editItems (st.setShadow b) = [st.shadowId.code] ++ be2 b.entries.length ++ be3 b.length := by
  rw [editItems, shadowId_setShadow, shadow_setShadow]

/-! ### A fresh edit: FROZEN, refused or accepted (R45, R46) -/

section edit

variable {k : ReqKind} {r : Request} {s : State} {absent : List Byte}
  {edit : List Byte → Store → Bank → Except Status (List Byte × Bank)}

theorem serve_edit_of_frozen {target : FrameNo} (h : Fresh k r s) (hc : s.store.commit = .pending target) :
    serve k (fun b s => editShadow absent (edit b s.store) s) s =
      replied r (body .frozen (editItems s.store ++ absent)) s := by
  rw [serve_of_fresh h, ← answer_takeRequest]
  simp only [editShadow, takeRequest_store, hc]

theorem serve_edit_of_refused {status : Status} (h : Fresh k r s) (hc : s.store.commit = .idle)
    (he : edit r.body s.store s.store.shadow = .error status) :
    serve k (fun b s => editShadow absent (edit b s.store) s) s =
      replied r (body status (editItems s.store ++ absent)) s := by
  rw [serve_of_fresh h, ← answer_takeRequest]
  simp only [editShadow, takeRequest_store, hc, he]

theorem serve_edit_of_accepted {items : List Byte} {bank : Bank} (h : Fresh k r s) (hc : s.store.commit = .idle)
    (he : edit r.body s.store s.store.shadow = .ok (items, bank)) :
    serve k (fun b s => editShadow absent (edit b s.store) s) s =
      replied r (body .ok (editItems (s.store.setShadow bank) ++ items))
        { s with store := s.store.setShadow bank } := by
  rw [serve_of_fresh h]
  simp only [editShadow, takeRequest_store, hc, he]
  rfl

end edit

/-! ### ENTRY_ADD (R41 to R43, R48, R49) -/

/-- The width that an action asks for: one of 1 to 65,535 for PULSE, and none for the others (R42, R48). -/
def Entry.widthInRange (e : Entry) : Bool :=
  match e.action, e.width with
  | .pulse, some w => decide (0 < w ∧ w < 65536)
  | .pulse, none => false
  | .set, none | .clear, none | .toggle, none => true
  | .set, some _ | .clear, some _ | .toggle, some _ => false

/-- A tag only where notify is yes, and of at most 65,535 (R42, R48). -/
def Entry.tagInRange (e : Entry) : Bool :=
  match e.tag with
  | some t => e.notify && decide (t < 65536)
  | none => true

theorem Entry.widthInRange_iff (e : Entry) :
    e.widthInRange = true ↔
      (e.action = .pulse → ∃ w, e.width = some w ∧ 1 ≤ w ∧ w ≤ 65535) ∧ (e.action ≠ .pulse → e.width = none) := by
  cases ha : e.action with
  | pulse => cases hw : e.width <;> simp [Entry.widthInRange, ha, hw, Nat.lt_succ_iff, Nat.one_le_iff_ne_zero,
      Nat.pos_iff_ne_zero]
  | set | clear | toggle => cases hw : e.width <;> simp [Entry.widthInRange, ha, hw]

theorem Entry.tagInRange_iff (e : Entry) :
    e.tagInRange = true ↔ ∀ t, e.tag = some t → e.notify = true ∧ t ≤ 65535 := by
  cases ht : e.tag <;> simp [Entry.tagInRange, ht, Nat.lt_succ_iff]

/-- The five rows of R48. -/
theorem Entry.valid_eq (length : Nat) (e : Entry) :
    e.valid length =
      (decide (e.offset < length) && e.widthInRange && periods.contains e.period && decide (e.phase < e.period)
        && e.tagInRange) := rfl

/-- An entry in range for a frame length: the rows of R48. -/
theorem Entry.valid_iff (length : Nat) (e : Entry) :
    e.valid length = true ↔
      e.offset < length ∧ (e.action = .pulse → ∃ w, e.width = some w ∧ 1 ≤ w ∧ w ≤ 65535) ∧
        (e.action ≠ .pulse → e.width = none) ∧ e.period ∈ [1, 2, 4, 8, 16, 32, 64] ∧ e.phase < e.period ∧
        (∀ t, e.tag = some t → e.notify = true ∧ t ≤ 65535) := by
  rw [Entry.valid_eq]
  simp only [Bool.and_eq_true, decide_eq_true_iff, Entry.widthInRange_iff, Entry.tagInRange_iff,
    List.contains_iff_mem, and_assoc]
  rfl

theorem any_hasKey_iff {offset : Nat} {lane : Lane} {es : List Entry} :
    es.any (Entry.hasKey offset lane) = true ↔ ∃ f ∈ es, f.offset = offset ∧ f.lane = lane := by
  simp [Entry.hasKey]

theorem any_hasKey_eq_false {offset : Nat} {lane : Lane} {es : List Entry}
    (h : ∀ f ∈ es, ¬ (f.offset = offset ∧ f.lane = lane)) : es.any (Entry.hasKey offset lane) = false := by
  rw [← Bool.not_eq_true, any_hasKey_iff]
  rintro ⟨f, hf, hkey⟩
  exact h f hf hkey

/-- The index of a key, with the order of keys written out (R43). -/
theorem keyIndex_eq (offset : Nat) (lane : Lane) (es : List Entry) :
    keyIndex offset lane es =
      (es.filter fun f => decide (f.offset < offset ∨ (f.offset = offset ∧ f.lane.val < lane.val))).length := by
  have hkey : (fun f : Entry => keyBefore f.offset f.lane offset lane) =
      fun f => decide (f.offset < offset ∨ (f.offset = offset ∧ f.lane.val < lane.val)) := by
    funext f
    rw [Bool.eq_iff_iff, keyBefore_iff, decide_eq_true_iff]
  rw [keyIndex, hkey]

section addEntry

variable {b : List Byte} {bank : Bank} {e : Entry}

theorem addEntry_of_unread (h : readEntry b = none) : addEntry b bank = .error .badValue := by
  simp only [addEntry, h]

theorem addEntry_of_invalid (h : readEntry b = some e) (hv : e.valid bank.length = false) :
    addEntry b bank = .error .badValue := by
  simp only [addEntry, h, hv, if_true]

theorem addEntry_of_held (h : readEntry b = some e) (hv : e.valid bank.length = true)
    (hk : ∃ f ∈ bank.entries, f.offset = e.offset ∧ f.lane = e.lane) : addEntry b bank = .error .duplicate := by
  simp only [addEntry, h, hv, any_hasKey_iff.mpr hk, Bool.true_eq_false, if_true, if_false]

theorem addEntry_of_full (h : readEntry b = some e) (hv : e.valid bank.length = true)
    (hk : ∀ f ∈ bank.entries, ¬ (f.offset = e.offset ∧ f.lane = e.lane)) (hl : 256 ≤ bank.entries.length) :
    addEntry b bank = .error .bankFull := by
  have hfull : Config.bankPlaces ≤ bank.entries.length := hl
  simp only [addEntry, h, hv, any_hasKey_eq_false hk, hfull, Bool.true_eq_false, Bool.false_eq_true, if_true, if_false]

theorem addEntry_of_room (h : readEntry b = some e) (hv : e.valid bank.length = true)
    (hk : ∀ f ∈ bank.entries, ¬ (f.offset = e.offset ∧ f.lane = e.lane)) (hl : bank.entries.length < 256) :
    addEntry b bank =
      .ok (indexItem (some (keyIndex e.offset e.lane bank.entries)),
        { bank with
          entries := bank.entries.take (keyIndex e.offset e.lane bank.entries) ++
            e :: bank.entries.drop (keyIndex e.offset e.lane bank.entries) }) := by
  have hroom : ¬ Config.bankPlaces ≤ bank.entries.length := Nat.not_le.mpr hl
  simp only [addEntry, h, hv, any_hasKey_eq_false hk, hroom, Bool.true_eq_false, Bool.false_eq_true, if_false]

end addEntry

theorem exec_entryAdd_of_refused {s : State} {r : Request} {status : Status} (h : Fresh .entryAdd r s)
    (hc : s.store.commit = .idle) (he : addEntry r.body s.store.shadow = .error status) :
    exec .entryAdd s = .next (replied r (body status (editItems s.store ++ indexItem none)) s) :=
  congrArg Host.Outcome.next (serve_edit_of_refused (edit := fun b _ => addEntry b) h hc he)

/-- Settles O45: the commit state, then each check of `addEntry` in its order. -/
theorem entryAddInsertsAtItsKey : Obligations.EntryAddInsertsAtItsKey := by
  refine ⟨Entry.valid_iff, fun s r h => ⟨fun target hc => ?_, fun hc => ⟨fun hr => ?_, fun e hr => ⟨fun hv => ?_, fun hv =>
    ⟨fun hk => ?_, fun hk => ⟨fun hl => ?_, fun hl i hi => ?_⟩⟩⟩⟩⟩⟩
  · exact congrArg Host.Outcome.next (serve_edit_of_frozen (edit := fun b _ => addEntry b) h hc)
  · exact exec_entryAdd_of_refused h hc (addEntry_of_unread hr)
  · exact exec_entryAdd_of_refused h hc (addEntry_of_invalid hr hv)
  · exact exec_entryAdd_of_refused h hc (addEntry_of_held hr hv hk)
  · exact exec_entryAdd_of_refused h hc (addEntry_of_full hr hv hk hl)
  · rw [← keyIndex_eq] at hi
    subst hi
    have hserve := serve_edit_of_accepted (absent := indexItem none) (edit := fun b _ => addEntry b) h hc
      (addEntry_of_room hr hv hk hl)
    rw [editItems_setShadow] at hserve
    exact congrArg Host.Outcome.next hserve

/-! ### ENTRY_REMOVE (R50) -/

theorem beNat_two (b1 b0 : Byte) : beNat [b1, b0] = b1.toNat * 256 + b0.toNat := by
  simp [beNat]

theorem beNat_three (b2 b1 b0 : Byte) : beNat [b2, b1, b0] = (b2.toNat * 256 + b1.toNat) * 256 + b0.toNat := by
  simp [beNat]

theorem readLane_eq_none {b : Byte} (h : 16 ≤ b.toNat) : readLane b = none :=
  dif_neg (Nat.not_lt.mpr h)

theorem readLane_of_val {b : Byte} {lane : Lane} (h : lane.val = b.toNat) : readLane b = some lane := by
  have hlt : b.toNat < 16 := h ▸ lane.isLt
  rw [readLane, dif_pos hlt]
  exact congrArg some (Fin.ext h.symm)

/-- In an ordered list the index of a held key is the number of entries before its entry (R43). -/
theorem keyIndex_of_split {front back : List Entry} {e : Entry}
    (hs : (front ++ e :: back).Pairwise fun f g => keyBefore f.offset f.lane g.offset g.lane = true) :
    keyIndex e.offset e.lane (front ++ e :: back) = front.length := by
  rw [List.pairwise_append, List.pairwise_cons] at hs
  obtain ⟨-, ⟨hback, -⟩, hfront⟩ := hs
  have hf : front.filter (fun f => keyBefore f.offset f.lane e.offset e.lane) = front :=
    List.filter_eq_self.mpr fun f hf => hfront f hf e List.mem_cons_self
  have hb : (e :: back).filter (fun f => keyBefore f.offset f.lane e.offset e.lane) = [] := by
    rw [List.filter_eq_nil_iff]
    intro f hf hbefore
    rw [keyBefore_iff] at hbefore
    rcases List.mem_cons.mp hf with rfl | hf
    · omega
    · have := (keyBefore_iff ..).mp (hback f hf)
      omega
  rw [keyIndex, List.filter_append, hf, hb, List.append_nil]

section removeEntry

variable {o2 o1 o0 laneByte : Byte} {bank : Bank} {lane : Lane}

theorem removeEntry_of_bad_lane (h : 16 ≤ laneByte.toNat) : removeEntry [o2, o1, o0, laneByte] bank = .error .badValue := by
  simp only [removeEntry, readLane_eq_none h]

theorem removeEntry_of_bad_offset (h : bank.length ≤ beNat [o2, o1, o0]) :
    removeEntry [o2, o1, o0, laneByte] bank = .error .badValue := by
  cases hl : readLane laneByte <;> simp only [removeEntry, hl, h, if_true]

theorem removeEntry_of_absent (hl : lane.val = laneByte.toNat) (ho : beNat [o2, o1, o0] < bank.length)
    (hk : ∀ f ∈ bank.entries, ¬ (f.offset = beNat [o2, o1, o0] ∧ f.lane = lane)) :
    removeEntry [o2, o1, o0, laneByte] bank = .error .notFound := by
  simp only [removeEntry, readLane_of_val hl, Nat.not_le.mpr ho, any_hasKey_eq_false hk, Bool.false_eq_true, if_false]

theorem removeEntry_of_held {front back : List Entry} {e : Entry} (hl : lane.val = laneByte.toNat)
    (ho : beNat [o2, o1, o0] < bank.length) (hb : bank.ordered) (hs : bank.entries = front ++ e :: back)
    (heo : e.offset = beNat [o2, o1, o0]) (hel : e.lane = lane) :
    removeEntry [o2, o1, o0, laneByte] bank =
      .ok (indexItem (some front.length), { bank with entries := front ++ back }) := by
  obtain ⟨-, -, hsorted, -⟩ := hb
  have hheld : bank.entries.any (Entry.hasKey (beNat [o2, o1, o0]) lane) = true :=
    any_hasKey_iff.mpr ⟨e, hs ▸ List.mem_append_right _ List.mem_cons_self, heo, hel⟩
  have hindex : keyIndex (beNat [o2, o1, o0]) lane bank.entries = front.length := by
    rw [← heo, ← hel, hs]
    exact keyIndex_of_split (hs ▸ hsorted)
  simp only [removeEntry, readLane_of_val hl, Nat.not_le.mpr ho, hheld, hindex, if_true, if_false]
  simp [hs]

end removeEntry

theorem exec_entryRemove_of_refused {s : State} {r : Request} {status : Status} (h : Fresh .entryRemove r s)
    (hc : s.store.commit = .idle) (he : removeEntry r.body s.store.shadow = .error status) :
    exec .entryRemove s = .next (replied r (body status (editItems s.store ++ indexItem none)) s) :=
  congrArg Host.Outcome.next (serve_edit_of_refused (edit := fun b _ => removeEntry b) h hc he)

/-- Settles O46: the commit state, then each check of `removeEntry` in its order; in an ordered list the key's index is the
place of its one entry. -/
theorem entryRemoveTakesTheKeyOut : Obligations.EntryRemoveTakesTheKeyOut := by
  intro s r o2 o1 o0 laneByte h hbody
  dsimp only
  rw [← beNat_three]
  refine ⟨fun target hc => ?_, fun hc => ⟨fun hbad => ?_, fun lane hl ho => ⟨fun hk => ?_,
    fun hb front back e hs heo hel => ?_⟩⟩⟩
  · exact congrArg Host.Outcome.next (serve_edit_of_frozen (edit := fun b _ => removeEntry b) h hc)
  · have he : removeEntry r.body s.store.shadow = .error .badValue := by
      rw [hbody]
      exact hbad.elim removeEntry_of_bad_lane removeEntry_of_bad_offset
    exact exec_entryRemove_of_refused h hc he
  · exact exec_entryRemove_of_refused h hc (hbody ▸ removeEntry_of_absent hl ho hk)
  · have hserve := serve_edit_of_accepted (absent := indexItem none) (edit := fun b _ => removeEntry b) h hc
      (hbody ▸ removeEntry_of_held hl ho hb hs heo hel)
    rw [editItems_setShadow] at hserve
    exact congrArg Host.Outcome.next hserve

/-! ### BANK_CLEAR, BANK_COPY, BANK_LENGTH (R51 to R53) -/

theorem lengthenBank_of_bad {b : List Byte} {bank : Bank}
    (h : beNat b < 10000 ∨ 16000000 < beNat b ∨ ∃ e ∈ bank.entries, beNat b ≤ e.offset) :
    lengthenBank b bank = .error .badValue := by
  by_cases hrange : beNat b < Config.minLength ∨ Config.maxLength < beNat b
  · simp only [lengthenBank, hrange, if_true]
  · have hpast : bank.entries.any (fun e => decide (beNat b ≤ e.offset)) = true := by
      rcases h with hmin | hmax | hentry
      · exact absurd (.inl hmin) hrange
      · exact absurd (.inr hmax) hrange
      · simpa using hentry
    simp only [lengthenBank, hrange, hpast, if_true, if_false]

theorem lengthenBank_of_good {b : List Byte} {bank : Bank} (hmin : 10000 ≤ beNat b) (hmax : beNat b ≤ 16000000)
    (hall : ∀ e ∈ bank.entries, e.offset < beNat b) :
    lengthenBank b bank = .ok ([], { bank with length := beNat b }) := by
  have hrange : ¬ (beNat b < Config.minLength ∨ Config.maxLength < beNat b) :=
    not_or.mpr ⟨Nat.not_lt.mpr hmin, Nat.not_lt.mpr hmax⟩
  have hpast : bank.entries.any (fun e => decide (beNat b ≤ e.offset)) = false := by
    simpa using hall
  simp only [lengthenBank, hrange, hpast, Bool.false_eq_true, if_false]

/-- Settles O47: each request is an edit that carries no items of its own; only BANK_LENGTH can be refused with BAD_VALUE. -/
theorem bankEditsReachTheShadow : Obligations.BankEditsReachTheShadow := by
  intro s r
  refine ⟨fun b => ⟨shadow_setShadow .., activeBank_setShadow .., active_setShadow .., commit_setShadow ..⟩,
    fun target hc => ⟨fun h => ?_, fun h => ?_, fun h => ?_⟩,
    fun hc => ⟨fun h => ?_, fun h => ?_, fun l2 l1 l0 h hbody length hlength => ?_⟩⟩
  · exact congrArg Host.Outcome.next
      (serve_edit_of_frozen (edit := fun _ _ bank => .ok ([], { bank with entries := [] })) h hc)
  · exact congrArg Host.Outcome.next (serve_edit_of_frozen (edit := fun _ st _ => .ok ([], st.activeBank)) h hc)
  · exact congrArg Host.Outcome.next (serve_edit_of_frozen (edit := fun b _ => lengthenBank b) h hc)
  · exact congrArg Host.Outcome.next
      (serve_edit_of_accepted (edit := fun _ _ bank => .ok ([], { bank with entries := [] })) h hc rfl)
  · exact congrArg Host.Outcome.next (serve_edit_of_accepted (edit := fun _ st _ => .ok ([], st.activeBank)) h hc rfl)
  · have hread : length = beNat r.body := by rw [hbody, beNat_three, hlength]
    subst hread
    refine ⟨fun hbad => ?_, fun hmin hmax hall => ?_⟩
    · exact congrArg Host.Outcome.next
        (serve_edit_of_refused (edit := fun b _ => lengthenBank b) h hc (lengthenBank_of_bad hbad))
    · exact congrArg Host.Outcome.next
        (serve_edit_of_accepted (edit := fun b _ => lengthenBank b) h hc (lengthenBank_of_good hmin hmax hall))

/-! ### BANK_READ (R55, R56) -/

theorem readBank_code (id : BankId) : readBank id.code = some id := by
  cases id <;> rfl

/-- A bank id byte above 1 names no bank (R171). -/
theorem readBank_eq_none {b : Byte} (h : 2 ≤ b.toNat) : readBank b = none := by
  have h0 : b ≠ 0 := by rintro rfl; exact absurd h (by decide)
  have h1 : b ≠ 1 := by rintro rfl; exact absurd h (by decide)
  rw [readBank, if_neg h0, if_neg h1]

section bankRead

variable {idByte i1 i0 : Byte} {id : BankId} {s : State}

theorem ownBankRead_of_bad_id (h : 2 ≤ idByte.toNat) :
    ownBankRead [idByte, i1, i0] s = (s, body .badValue []) := by
  simp only [ownBankRead, readBank_eq_none h]

theorem ownBankRead_of_past (h : (s.store.bank id).entries.length < beNat [i1, i0]) :
    ownBankRead [id.code, i1, i0] s = (s, body .badValue []) := by
  simp only [ownBankRead, readBank_code, h, if_true]

theorem ownBankRead_of_page (h : beNat [i1, i0] ≤ (s.store.bank id).entries.length) :
    ownBankRead [id.code, i1, i0] s = (s, body .ok (bankItems s.store id (beNat [i1, i0]))) := by
  simp only [ownBankRead, readBank_code, Nat.not_lt.mpr h, if_false]

end bankRead

/-- The items of a page, its entry count written out (R56, R175). -/
theorem bankItems_eq (st : Store) (id : BankId) (first : Nat) :
    bankItems st id first =
      [id.code, if id = st.active then 0 else 1] ++ be3 (st.bank id).length ++ be2 (st.bank id).entries.length ++ be2 first
        ++ be1 (min 16 ((st.bank id).entries.length - first))
        ++ (((st.bank id).entries.drop first).take 16).flatMap Entry.bytes := by
  have hpage : (((st.bank id).entries.drop first).take Config.readPage).length =
      min 16 ((st.bank id).entries.length - first) := by
    rw [List.length_take, List.length_drop]
    rfl
  simp only [bankItems, hpage]
  rfl

/-- Settles O48: BANK_READ answers with what `ownBankRead` reads of the state, and changes nothing. -/
theorem bankReadReturnsAPage : Obligations.BankReadReturnsAPage := by
  intro s r idByte i1 i0 h hbody
  have hserve : ∀ {b : List Byte}, ownBankRead [idByte, i1, i0] (takeRequest s) = (takeRequest s, b) →
      exec .bankRead s = .next (replied r b s) := by
    intro b hown
    rw [← hbody] at hown
    refine congrArg Host.Outcome.next ((serve_of_fresh (own := ownBankRead) h).trans ?_)
    rw [hown, answer_takeRequest]
  dsimp only
  rw [← beNat_two]
  refine ⟨fun hid => hserve (ownBankRead_of_bad_id hid), fun id hid => ?_⟩
  subst hid
  refine ⟨fun hpast => hserve (ownBankRead_of_past hpast), fun hpage => ?_⟩
  have hread := hserve (ownBankRead_of_page hpage)
  rw [bankItems_eq] at hread
  exact hread

end Sys2Proof.Machine
end

section
/-! SUPPORT. Proofs of the statements about the commit: what a boundary does with a pending one and which events it raises, and
the requests that set or clear what is pending. -/

namespace Sys2Proof.Machine

open Sys2Proof Sys2Proof.Machine Sys2Proof.Claims

/-! ### The schedule store at a boundary (R69, R73) -/

/-- The banks exchange roles exactly where a commit is pending for the frame that begins (R69). -/
theorem storeBoundary_noticeOf (cause : Cause) (length : Nat) (s : State) :
    s.store.boundary (noticeOf cause length s) =
      if s.store.commit = .pending (nextFrame s) then { s.store with active := s.store.active.other, commit := .idle }
      else s.store := by
  rw [← nextNumber_eq_nextFrame]
  rfl

/-- COMMITTED carries the bank that the swap makes active, and its length (R73). -/
theorem boundaryEvents_noticeOf (cause : Cause) (length : Nat) (s : State) :
    s.store.boundaryEvents (noticeOf cause length s) =
      if s.store.commit = .pending (nextFrame s) then [.committed (nextFrame s) (nextActive s) (nextLength s) cause]
      else [] := by
  have hevents : s.store.boundaryEvents (noticeOf cause length s) =
      if s.store.commit = .pending (nextFrame s) then
        [.committed (nextFrame s) s.store.shadowId s.store.shadow.length cause]
      else [] := by
    rw [← nextNumber_eq_nextFrame]
    rfl
  rw [hevents]
  split
  · rename_i hc
    have hactive : nextActive s = s.store.shadowId := if_pos hc
    rw [nextLength, hactive, Store.shadow]
  · rfl

/-! ### The tracker's events at a boundary (R25, R28, R30, R33, R37) -/

/-- What the tracker does at a boundary before its reaction to the length: the held pulse and the holdover count, the pulse that
ended the frame, or the realignment (R22, R24, R28, R30). -/
def Tracker.takeCause (n : Notice) (hold : PulseHold) (planned discarded : Nat) (t : Tracker) : Tracker × List Event :=
  match n.cause with
  | .nominal => Tracker.andThen ((t.beginFrame n.cause).takeHeld hold n.newFrame) (Tracker.countHoldover n.newFrame)
  | .early => (t.beginFrame n.cause).inWindow (-((planned : Int) - n.endLength)) n.newFrame
  | .cut =>
    ((t.beginFrame n.cause).realign,
      [.realigned n.newFrame n.endFrame n.endLength discarded, .trackerState t.state .locked .realign n.newFrame])

/-- The reaction to the length comes last, so its event does too (R33). -/
theorem Tracker.boundary_events (n : Notice) (hold : PulseHold) (changed : Bool) (planned discarded : Nat) (t : Tracker) :
    (t.boundary n hold changed planned discarded).2 =
      (t.takeCause n hold planned discarded).2 ++
        if changed then ((t.takeCause n hold planned discarded).1.lengthReaction n.newFrame).2 else [] := by
  cases changed with
  | false => exact (List.append_nil _).symm
  | true => rfl

theorem lengthReaction_events (t : Tracker) (s : State) :
    (if lengthChanges s then (t.lengthReaction (nextFrame s)).2 else []) = lengthEvents s t.state := by
  rw [ite_lengthChanges]
  by_cases hl : nextLength s = s.tb.startLen
  · simp [lengthEvents, hl]
  · rw [if_neg hl]
    cases hs : t.state with
    | locked => simp [Tracker.lengthReaction_of_following _ (.inl hs), lengthEvents, hl, hs]
    | holdover => simp [Tracker.lengthReaction_of_following _ (.inr hs), lengthEvents, hl, hs]
    | acquire => simp [Tracker.lengthReaction_of_acquire _ hs, lengthEvents]
    | lost => simp [Tracker.lengthReaction_of_lost_or_free _ (.inl hs), lengthEvents]
    | free => simp [Tracker.lengthReaction_of_lost_or_free _ (.inr hs), lengthEvents]

/-- The tracker before its reaction to the length, at a boundary of the present tick. -/
abbrev takenAt (cause : Cause) (length : Nat) (s : State) : Tracker × List Event :=
  s.tracker.takeCause (noticeOf cause length s) s.flags.pulseHeld s.tb.planned (discardCount cause s)

/-- An in-window pulse and then the reaction to the length raise the events of an EARLY boundary (R25, R33). -/
theorem inWindow_then_length_events (length : Nat) (s : State) :
    (if s.tracker.state = .holdover then [Event.trackerState .holdover .locked .pulse (nextFrame s)] else []) ++
        lengthEvents s (if s.tracker.state = .holdover then .locked else s.tracker.state) =
      trackerEvents .early length s := by
  unfold trackerEvents
  split <;> rfl

theorem takenAt_early_events (length : Nat) (s : State) :
    (takenAt .early length s).2 ++ lengthEvents s (takenAt .early length s).1.state = trackerEvents .early length s := by
  rw [← inWindow_then_length_events, ← nextNumber_eq_nextFrame]
  simp only [takenAt, Tracker.takeCause, noticeOf, Tracker.inWindow_eq]
  rfl

theorem takenAt_cut_events (length : Nat) (s : State) :
    (takenAt .cut length s).2 ++ lengthEvents s (takenAt .cut length s).1.state = trackerEvents .cut length s := by
  unfold trackerEvents
  rw [← nextNumber_eq_nextFrame]
  rfl

/-- After an in-window pulse the tracker is not in HOLDOVER (R25). -/
theorem Tracker.inWindow_not_holdover (correction : Int) (frame : FrameNo) (t : Tracker) :
    (t.inWindow correction frame).1.state ≠ .holdover := by
  rw [Tracker.inWindow_eq]
  dsimp only
  split
  · nofun
  · assumption

/-- A pulse held for a NOMINAL boundary leaves no holdover to count (R22, R28). -/
theorem takenAt_nominal_of_held {s : State} (length : Nat) (h : s.flags.pulseHeld = .held) :
    takenAt .nominal length s = (s.tracker.begunNominal .held).inWindow 0 (nextFrame s) := by
  have hcount : takenAt .nominal length s =
      Tracker.andThen ((s.tracker.begunNominal .held).inWindow 0 (nextFrame s)) (Tracker.countHoldover (nextFrame s)) := by
    rw [takenAt, h, ← nextNumber_eq_nextFrame]
    rfl
  rw [hcount, Tracker.andThen, Tracker.countHoldover_of_ne _ (Tracker.inWindow_not_holdover _ _ _), List.append_nil]

/-- A pulse held for a NOMINAL boundary raises what the pulse of an EARLY one would (R22, R25). -/
theorem takenAt_nominal_events_of_held {s : State} (length : Nat) (h : s.flags.pulseHeld = .held) :
    (takenAt .nominal length s).2 ++ lengthEvents s (takenAt .nominal length s).1.state =
      trackerEvents .nominal length s := by
  have hspec : trackerEvents .nominal length s = trackerEvents .early length s := by simp [trackerEvents, h]
  rw [hspec, takenAt_nominal_of_held length h, ← inWindow_then_length_events, Tracker.inWindow_eq]
  rfl

/-- Without a held pulse a NOMINAL boundary counts the holdover (R28). -/
theorem takenAt_nominal_of_not_held {s : State} (length : Nat) (h : s.flags.pulseHeld ≠ .held) :
    takenAt .nominal length s = (s.tracker.begunNominal s.flags.pulseHeld).countHoldover (nextFrame s) := by
  rw [takenAt, ← nextNumber_eq_nextFrame]
  cases hp : s.flags.pulseHeld with
  | held => exact absurd hp h
  | none => rfl
  | applied => rfl

theorem takenAt_nominal_events_of_not_held {s : State} (length : Nat) (h : s.flags.pulseHeld ≠ .held) :
    (takenAt .nominal length s).2 ++ lengthEvents s (takenAt .nominal length s).1.state =
      trackerEvents .nominal length s := by
  rw [takenAt_nominal_of_not_held length h]
  by_cases hs : s.tracker.state = .holdover
  · by_cases hl : s.tracker.holdoverLimit ≤ s.tracker.holdover + 1
    · rw [Tracker.countHoldover_of_limit (t := s.tracker.begunNominal _) _ hs hl]
      simp [trackerEvents, lengthEvents, h, hs, hl]
    · rw [Tracker.countHoldover_of_below (t := s.tracker.begunNominal _) _ hs hl]
      simp [trackerEvents, Tracker.begunNominal, h, hl]
  · rw [Tracker.countHoldover_of_ne (t := s.tracker.begunNominal _) _ hs]
    simp [trackerEvents, Tracker.begunNominal, h, hs]

/-- The events that the tracker raises at a boundary of the present tick, whatever its cause (R37). -/
theorem boundary_handed_tracker (cause : Cause) (length fires : Nat) (s : State) :
    (boundary cause length fires s).flags.handed.tracker =
      s.flags.handed.tracker ++ trackerEvents cause length s := by
  have hevents : (takenAt cause length s).2 ++ lengthEvents s (takenAt cause length s).1.state =
      trackerEvents cause length s := by
    cases cause with
    | nominal =>
      by_cases h : s.flags.pulseHeld = .held
      · exact takenAt_nominal_events_of_held length h
      · exact takenAt_nominal_events_of_not_held length h
    | early => exact takenAt_early_events length s
    | cut => exact takenAt_cut_events length s
  rw [boundary_handed, boundary_activeBank_length, Tracker.boundary_events, ← hevents, ← lengthReaction_events,
    ← nextNumber_eq_nextFrame]
  rfl

/-- Settles O11: the store's swap and its event by whether the target begins, the tracker's events by the cause; the other
blocks are as the boundary operation leaves them. -/
theorem boundarySwapsAtTarget : Obligations.BoundarySwapsAtTarget := by
  intro cause length fires s
  refine ⟨storeBoundary_noticeOf cause length s, ?_, boundary_handed_tracker cause length fires s,
    rfl, rfl, rfl, rfl, rfl, rfl, rfl, rfl, rfl, rfl, rfl, rfl, rfl, rfl, rfl, rfl⟩
  rw [boundary_handed, boundaryEvents_noticeOf]

/-! ### A fresh request carried out (R154) -/

/-- A fresh request leaves what its block makes of the state with the request taken, with the block's answer. -/
theorem serve_of_own {k : ReqKind} {own : List Byte → State → State × List Byte} {r : Request} {s t : State}
    {b : List Byte} (h : Fresh k r s) (hown : own r.body (takeRequest s) = (t, b)) : serve k own s = answer r b t := by
  rw [serve_of_fresh h, hown]

/-! ### Numbers of four bytes and their judgement (R10, R170) -/

theorem toNat_append_byte {w : Nat} (x : BitVec w) (b : Byte) : (x ++ b).toNat = x.toNat * 256 + b.toNat := by
  rw [BitVec.toNat_append, ← Nat.shiftLeft_add_eq_or_of_lt b.isLt, Nat.shiftLeft_eq]

theorem ofNat_beNat_four (b3 b2 b1 b0 : Byte) : BitVec.ofNat 32 (beNat [b3, b2, b1, b0]) = b3 ++ b2 ++ b1 ++ b0 := by
  have hnat : beNat [b3, b2, b1, b0] = (b3 ++ b2 ++ b1 ++ b0).toNat := by
    simp only [toNat_append_byte]
    simp [beNat]
  rw [hnat, BitVec.ofNat_toNat, BitVec.setWidth_eq]

section judge

variable {target current : FrameNo}

/-- The judgement with its bounds written out (R10). -/
theorem judge_eq (target current : FrameNo) :
    judge target current =
      if (target - current).toNat = 0 then some .late
      else if (target - current).toNat ≤ 65535 then none
      else if (target - current).toNat < 2147483648 then some .badValue
      else some .late := rfl

theorem judge_of_late (h : (target - current).toNat = 0 ∨ 2147483648 ≤ (target - current).toNat) :
    judge target current = some .late := by
  rw [judge_eq]
  rcases h with h | h
  · rw [if_pos h]
  · rw [if_neg (by omega), if_neg (by omega), if_neg (by omega)]

theorem judge_of_far (hlo : 65536 ≤ (target - current).toNat) (hhi : (target - current).toNat < 2147483648) :
    judge target current = some .badValue := by
  rw [judge_eq, if_neg (by omega), if_neg (by omega), if_pos hhi]

theorem judge_of_near (hlo : 1 ≤ (target - current).toNat) (hhi : (target - current).toNat ≤ 65535) :
    judge target current = none := by
  rw [judge_eq, if_neg (by omega), if_pos hhi]

end judge

/-! ### COMMIT (R62, R63) -/

section commitTarget

variable {f3 f2 f1 f0 : Byte} {current : FrameNo}

theorem commitTarget_of_next : commitTarget [0, f3, f2, f1, f0] current = .ok (current + 1) := rfl

theorem commitTarget_of_bad_kind {kind : Byte} (h : 2 ≤ kind.toNat) :
    commitTarget [kind, f3, f2, f1, f0] current = .error .badValue := by
  have h0 : kind ≠ 0 := by rintro rfl; exact absurd h (by decide)
  have h1 : kind ≠ 1 := by rintro rfl; exact absurd h (by decide)
  rw [commitTarget, if_neg h0, if_neg h1]

theorem commitTarget_of_refused {status : Status} (h : judge (f3 ++ f2 ++ f1 ++ f0) current = some status) :
    commitTarget [1, f3, f2, f1, f0] current = .error status := by
  rw [commitTarget, if_neg (by decide), if_pos rfl, ofNat_beNat_four, h]

theorem commitTarget_of_numbered (h : judge (f3 ++ f2 ++ f1 ++ f0) current = none) :
    commitTarget [1, f3, f2, f1, f0] current = .ok (f3 ++ f2 ++ f1 ++ f0) := by
  rw [commitTarget, if_neg (by decide), if_pos rfl, ofNat_beNat_four, h]

end commitTarget

section commit

variable {b : List Byte} {r : Request} {s : State}

theorem ownCommit_of_pending {target : FrameNo} (hc : s.store.commit = .pending target) :
    ownCommit b s = (s, body .commitPending (commitItems (some target) s.tb.frame none)) := by
  simp only [ownCommit, hc]

theorem ownCommit_of_renumber (hc : s.store.commit = .idle) (hn : s.tb.renumber ≠ none) :
    ownCommit b s = (s, body .renumberPending (commitItems none s.tb.frame none)) := by
  simp only [ownCommit, hc, Option.isSome_iff_ne_none.mpr hn, if_true]

theorem ownCommit_of_refused {status : Status} (hc : s.store.commit = .idle) (hn : s.tb.renumber = none)
    (ht : commitTarget b s.tb.frame = .error status) :
    ownCommit b s = (s, body status (commitItems none s.tb.frame none)) := by
  simp only [ownCommit, hc, hn, ht, Option.isSome_none, Bool.false_eq_true, if_false]

theorem ownCommit_of_accepted {target : FrameNo} (hc : s.store.commit = .idle) (hn : s.tb.renumber = none)
    (ht : commitTarget b s.tb.frame = .ok target) :
    ownCommit b s =
      (s.setStore { s.store with commit := .pending target },
        body .ok (commitItems (some target) s.tb.frame (some s.store.shadowId))) := by
  simp only [ownCommit, hc, hn, ht, Option.isSome_none, Bool.false_eq_true, if_false]

theorem exec_commit_of_pending {target : FrameNo} (h : Fresh .commit r s) (hc : s.store.commit = .pending target) :
    exec .commit s = .next (replied r ([0x09, 1] ++ frameBytes target ++ frameBytes s.tb.frame ++ [0xFF]) s) :=
  congrArg Host.Outcome.next (serve_of_own h (ownCommit_of_pending (s := takeRequest s) hc))

theorem exec_commit_of_renumber (h : Fresh .commit r s) (hc : s.store.commit = .idle) (hn : s.tb.renumber ≠ none) :
    exec .commit s = .next (replied r ([0x0A, 0, 0, 0, 0, 0] ++ frameBytes s.tb.frame ++ [0xFF]) s) :=
  congrArg Host.Outcome.next (serve_of_own h (ownCommit_of_renumber (s := takeRequest s) hc hn))

/-- The reply to a refused COMMIT with no commit pending: no target, and no bank to become active (R63). -/
theorem exec_commit_of_refused {status : Status} (h : Fresh .commit r s) (hc : s.store.commit = .idle)
    (hn : s.tb.renumber = none) (ht : commitTarget r.body s.tb.frame = .error status) :
    exec .commit s = .next (replied r ([status.code, 0, 0, 0, 0, 0] ++ frameBytes s.tb.frame ++ [0xFF]) s) :=
  congrArg Host.Outcome.next (serve_of_own h (ownCommit_of_refused (s := takeRequest s) hc hn ht))

theorem exec_commit_of_accepted {target : FrameNo} (h : Fresh .commit r s) (hc : s.store.commit = .idle)
    (hn : s.tb.renumber = none) (ht : commitTarget r.body s.tb.frame = .ok target) :
    exec .commit s = .next
      (replied r ([0x00, 1] ++ frameBytes target ++ frameBytes s.tb.frame ++ [s.store.shadowId.code])
        { s with store := { s.store with commit := .pending target } }) :=
  congrArg Host.Outcome.next (serve_of_own h (ownCommit_of_accepted (s := takeRequest s) hc hn ht))

end commit

/-! ### COMMIT_CANCEL (R67) and FRAME_RENUMBER (R11) -/

section cancelAndRenumber

variable {b : List Byte} {s : State} {target : FrameNo}

theorem ownCommitCancel_of_pending (hc : s.store.commit = .pending target) :
    ownCommitCancel b s =
      (s.setStore { s.store with commit := .idle },
        body .ok ([s.store.active.code] ++ present be4 (some target.toNat))) := by
  simp only [ownCommitCancel, hc]

theorem ownCommitCancel_of_idle (hc : s.store.commit = .idle) :
    ownCommitCancel b s = (s, body .notPending ([s.store.active.code] ++ present be4 none)) := by
  simp only [ownCommitCancel, hc]

theorem ownFrameRenumber_of_pending (hc : s.store.commit = .pending target) :
    ownFrameRenumber b s = (s, body .commitPending (frameBytes s.tb.frame)) := by
  simp only [ownFrameRenumber, hc]

theorem ownFrameRenumber_of_idle {f3 f2 f1 f0 : Byte} (hb : b = [f3, f2, f1, f0]) (hc : s.store.commit = .idle) :
    ownFrameRenumber b s =
      (s.setTb { s.tb with renumber := some (f3 ++ f2 ++ f1 ++ f0) }, body .ok (frameBytes s.tb.frame)) := by
  simp only [ownFrameRenumber, hb, hc, ofNat_beNat_four]

end cancelAndRenumber

/-- Settles O50: COMMIT by its four checks in order, the third and fourth made by `commitTarget`; COMMIT_CANCEL and
FRAME_RENUMBER by the commit state. -/
theorem commitAndRenumberPend : Obligations.CommitAndRenumberPend := by
  refine ⟨fun s r kind f3 f2 f1 f0 h hbody => ?_, fun s r h => ⟨fun target hc => ?_, fun hc => ?_⟩,
    fun s r f3 f2 f1 f0 h hbody => ⟨fun target hc => ?_, fun hc => ?_⟩⟩
  · have hread : commitTarget r.body s.tb.frame = commitTarget [kind, f3, f2, f1, f0] s.tb.frame := by rw [hbody]
    refine ⟨fun target hc => ?_, fun hc => ⟨fun hn => ?_, fun hn => ⟨fun hkind => ?_, fun hkind => ?_, fun hkind =>
      ⟨fun hd => ?_, fun hlo hhi => ?_, fun hlo hhi => ?_⟩⟩⟩⟩
    · exact exec_commit_of_pending h hc
    · exact exec_commit_of_renumber h hc hn
    · exact exec_commit_of_refused (status := .badValue) h hc hn (hread.trans (commitTarget_of_bad_kind hkind))
    · subst hkind
      exact exec_commit_of_accepted h hc hn (hread.trans commitTarget_of_next)
    · subst hkind
      exact exec_commit_of_refused (status := .late) h hc hn (hread.trans (commitTarget_of_refused (judge_of_late hd)))
    · subst hkind
      exact exec_commit_of_refused (status := .badValue) h hc hn
        (hread.trans (commitTarget_of_refused (judge_of_far hlo hhi)))
    · subst hkind
      exact exec_commit_of_accepted h hc hn (hread.trans (commitTarget_of_numbered (judge_of_near hlo hhi)))
  · exact congrArg Host.Outcome.next (serve_of_own h (ownCommitCancel_of_pending (s := takeRequest s) hc))
  · exact congrArg Host.Outcome.next (serve_of_own h (ownCommitCancel_of_idle (s := takeRequest s) hc))
  · exact congrArg Host.Outcome.next (serve_of_own h (ownFrameRenumber_of_pending (s := takeRequest s) hc))
  · exact congrArg Host.Outcome.next (serve_of_own h (ownFrameRenumber_of_idle (s := takeRequest s) hbody hc))

end Sys2Proof.Machine
end

section
/-! SUPPORT. Proofs of the statements about the execution of actions: the firing of an entry, ENTRY_FIRE, and what a boundary
does with the schedule of the frame that ends. -/

namespace Sys2Proof.Machine

open Sys2Proof Sys2Proof.Machine Sys2Proof.Claims

/-! ### One firing (R78) -/

section fire

variable {t : Tick} {e : Entry} {l : OutLane}

theorem OutLane.fire_of_set (h : e.action = .set) : l.fire t e = { l with level := .high, pulseEnd := none } := by
  simp only [OutLane.fire, h]

theorem OutLane.fire_of_clear (h : e.action = .clear) : l.fire t e = { l with level := .low, pulseEnd := none } := by
  simp only [OutLane.fire, h]

theorem OutLane.fire_of_toggle (h : e.action = .toggle) :
    l.fire t e = { l with level := if l.level = .low then .high else .low, pulseEnd := none } := by
  simp only [OutLane.fire, h]
  cases l.level <;> rfl

theorem OutLane.fire_of_pulse {w : Nat} (h : e.action = .pulse) (hw : e.width = some w) :
    l.fire t e = { l with level := .high, pulseEnd := some (t + BitVec.ofNat 64 w) } := by
  simp only [OutLane.fire, h, hw, Option.getD_some]

end fire

theorem fireAll_cons (t : Tick) (f : Firing) (fs : List Firing) (v : Lanes OutLane) :
    fireAll t (f :: fs) v = fireAll t fs (v.set f.entry.lane ((v.get f.entry.lane).fire t f.entry)) := rfl

/-- Firings leave the lanes that none of their entries names as they were. -/
theorem fireAll_get_of_not_named (t : Tick) {fs : List Firing} (v : Lanes OutLane) {lane : Lane}
    (h : ∀ f ∈ fs, lane ≠ f.entry.lane) : (fireAll t fs v).get lane = v.get lane := by
  induction fs generalizing v with
  | nil => rfl
  | cons f fs ih =>
    obtain ⟨hf, hfs⟩ := List.forall_mem_cons.mp h
    rw [fireAll_cons, ih _ hfs, Lanes.get_set_of_ne _ _ hf.symm]

theorem fireAll_singleton_get_self (t : Tick) (f : Firing) (v : Lanes OutLane) :
    (fireAll t [f] v).get f.entry.lane = (v.get f.entry.lane).fire t f.entry :=
  Lanes.get_set_self ..

/-- Settles O20: the entry's lane takes the record that its action gives, and the other lanes are not written. -/
theorem firingChangesItsLane : Obligations.FiringChangesItsLane := by
  intro t f v
  have hself := fireAll_singleton_get_self t f v
  exact ⟨fun lane hne => fireAll_get_of_not_named t v (by simpa using hne),
    fun h => hself.trans (OutLane.fire_of_set h), fun h => hself.trans (OutLane.fire_of_clear h),
    fun h => hself.trans (OutLane.fire_of_toggle h), fun w h hw => hself.trans (OutLane.fire_of_pulse h hw)⟩

/-! ### ENTRY_FIRE (R76, R77, R84, R86) -/

/-- Where a list splits into entries at an offset and a rest that does not begin there, its front at the offset is the first
part (R76). -/
theorem atOffset_append {x : Nat} {here later : List Entry} (hhere : ∀ e ∈ here, e.offset = x)
    (hlater : ∀ e ∈ later.head?, e.offset ≠ x) : atOffset x (here ++ later) = here := by
  have hrest : atOffset x later = [] := by
    cases later with
    | nil => rfl
    | cons e rest => exact List.takeWhile_cons_of_neg (by simpa using hlater e rfl)
  have hfront : atOffset x (here ++ later) = here ++ atOffset x later :=
    List.takeWhile_append_of_pos fun e he => decide_eq_true (hhere e he)
  rw [hfront, hrest, List.append_nil]

/-- ENTRY_FIRE has something to make: firings of a boundary that wait, or an entry at the cursor at the present offset. -/
theorem entryFireDue_iff {s : State} (hr : s.phase = .running) (hb : s.flags.boundaryDue = false)
    (he : s.flags.edgeNow = false) :
    entryFireDue s = true ↔ s.flags.waiting ≠ [] ∨ ∃ e ∈ (unreached s).head?, e.offset = s.tb.offset := by
  have hready : offsetReady s = true := by simp [offsetReady, running_iff, hr, hb, he]
  cases hu : unreached s <;> simp [entryFireDue, hready, hu]

/-- With no firing of a boundary waiting, ENTRY_FIRE makes those of the entries at the front of the entries not reached. -/
theorem exec_entryFire_of_no_waiting {s : State} (hdue : entryFireDue s = true) (hw : s.flags.waiting = []) :
    exec .entryFire s = .next
      (makeFirings
        (((atOffset s.tb.offset (unreached s)).filter (Entry.selectedIn s.exec.frame)).map fun e =>
          ⟨e, s.exec.frame, s.exec.bank, false⟩)
        ((s.setExec { s.exec with cursor := s.exec.cursor + (atOffset s.tb.offset (unreached s)).length }).setFlags
          { s.flags with settled := true })) := by
  simp only [exec, execEntryFire, hdue, hw, if_true]

/-- Firings of a boundary that wait are made by the next ENTRY_FIRE, all of them (log 7). -/
theorem exec_entryFire_of_waiting {s : State} (hdue : entryFireDue s = true) (hw : s.flags.waiting ≠ []) :
    exec .entryFire s = .next (makeFirings s.flags.waiting (s.setFlags { s.flags with waiting := [] })) := by
  obtain ⟨f, rest, hcons⟩ := List.exists_cons_of_ne_nil hw
  simp only [exec, execEntryFire, hdue, hcons, if_true]

/-- Settles O19: ENTRY_FIRE is due in both cases; the entries at the offset are the first part of the split, or the firings that
wait are made. -/
theorem entriesFireAtTheirOffset : Obligations.EntriesFireAtTheirOffset := by
  refine ⟨fun s here later hr hb he hw hsplit hne hhere hlater => ?_, fun s hr hb he hw => ?_⟩
  · have hreached : atOffset s.tb.offset (unreached s) = here := hsplit ▸ atOffset_append hhere hlater
    obtain ⟨first, rest, rfl⟩ := List.exists_cons_of_ne_nil hne
    have hdue : entryFireDue s = true :=
      (entryFireDue_iff hr hb he).mpr (.inr ⟨first, by rw [hsplit]; rfl, hhere first List.mem_cons_self⟩)
    rw [exec_entryFire_of_no_waiting hdue hw, hreached]
    rfl
  · exact exec_entryFire_of_waiting ((entryFireDue_iff hr hb he).mpr (.inl hw)) hw

/-! ### The executor at a boundary (R75, R84 to R87) -/

/-- The firings of the frame that begins at a boundary of the present tick, at its offset 0 (R76, R77). -/
def begunFirings (s : State) : List Firing :=
  ((firstEntries (s.store.bank (nextActive s))).filter (Entry.selectedIn (nextFrame s))).map fun e =>
    ⟨e, nextFrame s, nextActive s, false⟩

section executorBoundary

variable (cause : Cause) (length fires : Nat) (s : State)

theorem boundary_activeBank_eq :
    (s.store.boundary (noticeOf cause length s)).activeBank = s.store.bank (nextActive s) := by
  rw [Store.activeBank, storeBoundary_bank, boundary_active]

theorem firstFirings_noticeOf :
    firstFirings (noticeOf cause length s) (s.store.boundary (noticeOf cause length s)) = begunFirings s := by
  rw [firstFirings, boundary_activeBank_eq, boundary_active, begunFirings, ← nextNumber_eq_nextFrame]
  rfl

/-- A boundary's firings: those squeezed, then those of the frame that begins (R84, R87). -/
theorem firings_noticeOf :
    firings (noticeOf cause length s) (s.store.boundary (noticeOf cause length s)) s =
      squeezed cause s ++ begunFirings s := by
  rw [firings, firstFirings_noticeOf]
  rfl

/-- The executor begins the new frame, and keeps the discard count of the ended one (R75, R85). -/
theorem boundary_exec_eq :
    (boundary cause length fires s).exec =
      ⟨nextActive s, nextFrame s, (firstEntries (s.store.bank (nextActive s))).length, discardCount cause s⟩ := by
  rw [boundary_exec, execBoundary, boundary_activeBank_eq, boundary_active, ← nextNumber_eq_nextFrame]
  rfl

/-- A state in which the first `fires` of `fs` have been made, since `s`, with their ACTION events raised, and the rest wait. -/
structure MakesFirings (fs : List Firing) (t : State) : Prop where
  lanes : t.lanes = fireAll s.tb.tick (fs.take fires) s.lanes
  events : t.flags.handed.executor = s.flags.handed.executor ++ actionsOf (fs.take fires)
  waiting : t.flags.waiting = fs.drop fires

theorem boundary_makesFirings :
    MakesFirings fires s (squeezed cause s ++ begunFirings s) (boundary cause length fires s) where
  lanes := by rw [boundary_lanes, firings_noticeOf]
  events := by rw [boundary_handed, firings_noticeOf]; rfl
  waiting := by rw [boundary_waiting, firings_noticeOf]

end executorBoundary

theorem squeezed_early (s : State) :
    squeezed .early s = (leftOver s).map fun e => ⟨e, s.exec.frame, s.exec.bank, true⟩ := if_pos rfl

theorem squeezed_of_ne_early {cause : Cause} (s : State) (h : cause ≠ .early) : squeezed cause s = [] := if_neg h

theorem discardCount_cut (s : State) : discardCount .cut s = (leftOver s).length := if_pos rfl

theorem discardCount_of_ne_cut {cause : Cause} (s : State) (h : cause ≠ .cut) : discardCount cause s = s.exec.discard :=
  if_neg h

theorem boundary_makesFirings_of_ne_early {cause : Cause} (length fires : Nat) (s : State) (h : cause ≠ .early) :
    MakesFirings fires s (begunFirings s) (boundary cause length fires s) := by
  have hmakes := boundary_makesFirings cause length fires s
  rwa [squeezed_of_ne_early s h] at hmakes

theorem boundary_exec_of_ne_cut {cause : Cause} (length fires : Nat) (s : State) (h : cause ≠ .cut) :
    (boundary cause length fires s).exec =
      ⟨nextActive s, nextFrame s, (firstEntries (s.store.bank (nextActive s))).length, s.exec.discard⟩ := by
  rw [boundary_exec_eq, discardCount_of_ne_cut s h]

/-- A CUT boundary counts the selected entries not reached (R85). -/
theorem boundary_exec_of_cut (length fires : Nat) (s : State) :
    (boundary .cut length fires s).exec =
      ⟨nextActive s, nextFrame s, (firstEntries (s.store.bank (nextActive s))).length, (leftOver s).length⟩ := by
  rw [boundary_exec_eq, discardCount_cut]

/-- Settles O21: only an EARLY boundary squeezes, only a CUT one counts, and each makes the firings at offset 0 of the frame that
begins. -/
theorem boundarySqueezesOrDiscards : Obligations.BoundarySqueezesOrDiscards := by
  intro length fires s left first begun Makes
  have hearly := boundary_makesFirings .early length fires s
  rw [squeezed_early] at hearly
  have hcut := boundary_makesFirings_of_ne_early (cause := .cut) length fires s (by decide)
  have hnominal := boundary_makesFirings_of_ne_early (cause := .nominal) length fires s (by decide)
  have hcount : left.length = (leftOver s).length := List.length_map ..
  exact ⟨⟨hearly.lanes, hearly.events, hearly.waiting⟩, ⟨hcut.lanes, hcut.events, hcut.waiting⟩,
    ⟨hnominal.lanes, hnominal.events, hnominal.waiting⟩, hcount ▸ boundary_exec_of_cut length fires s,
    boundary_exec_of_ne_cut length fires s (by decide), boundary_exec_of_ne_cut length fires s (by decide)⟩

end Sys2Proof.Machine
end

section
/-! SUPPORT. Proofs of the statements about the output lanes and the safe control: the pin levels, SAFE_N, the safe latch's
requests and the requests of one lane. -/

namespace Sys2Proof.Machine

open Sys2Proof Sys2Proof.Machine Sys2Proof.Claims

/-! ### The output pins (R14, R90) -/

theorem outPin_of_running {s : State} (lane : Lane) (h : s.phase = .running) :
    outPin s lane = (s.lanes.get lane).pin s.safe.latch := by
  simp only [outPin, outPins, h, Lanes.get_map]

section pin

variable {latch : Option SafeCause} {l : OutLane}

theorem OutLane.pin_of_off (h : l.mode = .off) : l.pin latch = .highImpedance := by
  simp only [OutLane.pin, h]

theorem OutLane.pin_of_scheduled (h : l.mode = .scheduled) :
    l.pin none = if l.level = .high then .high else .low := by
  simp only [OutLane.pin, h]
  cases l.level <;> rfl

theorem OutLane.pin_of_forcedHigh (h : l.mode = .forcedHigh) : l.pin none = .high := by
  simp only [OutLane.pin, h]

theorem OutLane.pin_of_forcedLow (h : l.mode = .forcedLow) : l.pin none = .low := by
  simp only [OutLane.pin, h]

/-- While the latch is SET, a lane that is not OFF shows its safe behaviour whatever its mode (R90). -/
theorem OutLane.pin_of_set (hl : latch ≠ none) (hm : l.mode ≠ .off) : l.pin latch = l.safeBehaviour := by
  obtain ⟨cause, rfl⟩ := Option.ne_none_iff_exists'.mp hl
  cases h : l.mode with
  | off => exact absurd h hm
  | scheduled | forcedHigh | forcedLow => simp only [OutLane.pin, h]

end pin

/-- Settles O24: outside the running device by R14, else by the lane's mode under each state of the latch. -/
theorem pinFollowsModeAndLatch : Obligations.PinFollowsModeAndLatch := by
  refine ⟨fun s lane h => (outputsOff_of_not_running h).1 lane, fun s x => rfl, fun s lane h => ?_⟩
  rw [outPin_of_running lane h]
  refine ⟨OutLane.pin_of_off, fun hl => ?_, fun hl hm => ?_⟩
  · rw [hl]
    exact ⟨OutLane.pin_of_scheduled, OutLane.pin_of_forcedHigh, OutLane.pin_of_forcedLow⟩
  · rw [OutLane.pin_of_set hl hm]
    refine ⟨fun hs => ?_, fun hs => ?_, fun hs => ?_, fun hs => ?_⟩ <;> simp only [OutLane.safeBehaviour, hs]

/-! ### SAFE_N (R91, R98) -/

section sampleSafe

variable {s : State}

theorem sampleSafe_of_agrees (h : s.pins.safeN = s.safe.qualified) :
    sampleSafe s =
      (s.setFlags { s.flags with safeSampled := true }).setSafe { s.safe with candidate := none } := by
  simp only [sampleSafe, h, if_true]

theorem sampleSafe_of_first (h : s.pins.safeN ≠ s.safe.qualified) (hc : s.safe.candidate = none) :
    sampleSafe s =
      (s.setFlags { s.flags with safeSampled := true }).setSafe
        { s.safe with candidate := some ⟨s.pins.safeN, s.tb.tick⟩ } := by
  simp only [sampleSafe, h, hc, if_false]

/-- A candidate under way is not started again. -/
theorem sampleSafe_of_candidate (h : s.pins.safeN ≠ s.safe.qualified) (hc : s.safe.candidate ≠ none) :
    sampleSafe s = s := by
  obtain ⟨c, hc⟩ := Option.ne_none_iff_exists'.mp hc
  simp only [sampleSafe, h, hc, if_false]

end sampleSafe

theorem exec_safeNChange_of_sampled {s : State} (level : Level) (hr : s.phase = .running)
    (hf : s.flags.safeSampled = false) :
    exec (.safeNChange level) s = .next (sampleSafe (s.setPins { s.pins with safeN := level })) := by
  simp [exec, execSafeNChange, running_iff, hr, hf]

theorem exec_safeNChange_of_not_sampled {s : State} (level : Level)
    (h : s.phase ≠ .running ∨ s.flags.safeSampled = true) :
    exec (.safeNChange level) s = .next (s.setPins { s.pins with safeN := level }) := by
  rcases h with h | h <;> simp [exec, execSafeNChange, running_iff, h]

theorem safeDue_of_candidate {s : State} {c : LevelCandidate} (hr : s.phase = .running)
    (hf : s.flags.safeSampled = false) (hc : s.safe.candidate = some c) (hl : c.level = s.pins.safeN)
    (ht : s.tb.tick = c.start + 100) : safeDue s = true := by
  simp [safeDue, running_iff, hr, hf, hc, hl, ht, Config.safeDeglitch]

/-- The state with SAFE_N's present level qualified, before the latch is looked at (R98). -/
def safeQualified (s : State) : State :=
  (s.setSafe { s.safe with qualified := s.pins.safeN, candidate := none }).setFlags { s.flags with safeSampled := true }

theorem exec_safeNQualified_of_asserted {s : State} (hd : safeDue s = true) (hp : s.pins.safeN = .low) :
    exec .safeNQualified s = .next (setLatch .input (safeQualified s)) := by
  simp only [exec, execSafeNQualified, hd, hp, if_true, safeQualified]

theorem exec_safeNQualified_of_deasserted {s : State} (hd : safeDue s = true) (hp : s.pins.safeN = .high) :
    exec .safeNQualified s = .next (safeQualified s) := by
  simp only [exec, execSafeNQualified, hd, hp, if_true, safeQualified]

/-- Where the qualified level is DEASSERTED, or the latch is SET already, the latch is left (R91, R98). -/
theorem exec_safeNQualified_of_latch_kept {s : State} (hd : safeDue s = true)
    (h : s.pins.safeN = .high ∨ s.safe.latch ≠ none) : exec .safeNQualified s = .next (safeQualified s) := by
  cases hp : s.pins.safeN with
  | high => exact exec_safeNQualified_of_deasserted hd hp
  | low =>
    obtain ⟨cause, hset⟩ := Option.ne_none_iff_exists'.mp (h.resolve_left (by simp [hp]))
    rw [exec_safeNQualified_of_asserted hd hp, setLatch_of_set (s := safeQualified s) hset]

/-- Settles O22: the sample by the level and the candidate, the qualification by the level and the latch. -/
theorem safeInputIsQualified : Obligations.SafeInputIsQualified := by
  refine ⟨fun level s => ⟨fun hr hf => ?_, fun h => exec_safeNChange_of_not_sampled level h⟩,
    fun s c hr hf hc hl ht => ⟨fun hlow hclear => ?_, fun h => ?_⟩⟩
  · rw [exec_safeNChange_of_sampled level hr hf]
    exact ⟨fun h => congrArg Host.Outcome.next (sampleSafe_of_agrees h),
      fun h hn => congrArg Host.Outcome.next (sampleSafe_of_first h hn),
      fun h hn => congrArg Host.Outcome.next (sampleSafe_of_candidate h hn)⟩
  · have hpin : s.pins.safeN = .low := hl.symm.trans hlow
    rw [exec_safeNQualified_of_asserted (safeDue_of_candidate hr hf hc hl ht) hpin,
      setLatch_of_clear (s := safeQualified s) hclear, safeQualified, hpin]
    rfl
  · rw [hl] at h
    rw [exec_safeNQualified_of_latch_kept (safeDue_of_candidate hr hf hc hl ht) h, hl]
    rfl

/-! ### A fresh request that keeps the state (R154) -/

/-- A fresh request whose block leaves the state is answered and changes nothing else. -/
theorem serve_of_own_kept {k : ReqKind} {own : List Byte → State → State × List Byte} {r : Request} {s : State}
    {b : List Byte} (h : Fresh k r s) (hown : own r.body (takeRequest s) = (takeRequest s, b)) :
    serve k own s = replied r b s :=
  (serve_of_own h hown).trans (answer_takeRequest r b s)

/-! ### SAFE_ENTER and SAFE_RELEASE (R99, R100) -/

section safeRequests

variable {b : List Byte} {s : State}

theorem ownSafeEnter_of_set (h : s.safe.latch ≠ none) : ownSafeEnter b s = (s, body .ok [1]) := by
  obtain ⟨cause, hset⟩ := Option.ne_none_iff_exists'.mp h
  rw [ownSafeEnter, setLatch_of_set hset, hset]
  rfl

theorem ownSafeEnter_of_clear (h : s.safe.latch = none) :
    ownSafeEnter b s = (setLatch .request s, body .ok [0]) := by
  rw [ownSafeEnter, h]
  rfl

theorem ownSafeRelease_of_clear (h : s.safe.latch = none) : ownSafeRelease b s = (s, body .ok []) := by
  simp only [ownSafeRelease, h]

theorem ownSafeRelease_of_asserted (h : s.safe.latch ≠ none) (hq : s.safe.qualified = .low) :
    ownSafeRelease b s = (s, body .safeInputActive []) := by
  obtain ⟨cause, hset⟩ := Option.ne_none_iff_exists'.mp h
  simp only [ownSafeRelease, hset, hq]

theorem ownSafeRelease_of_deasserted (h : s.safe.latch ≠ none) (hq : s.safe.qualified = .high) :
    ownSafeRelease b s =
      (raise .safe [.safeReleased (presentStamp s).1 (presentStamp s).2]
        ((useOffset s).setSafe { s.safe with latch := none }), body .ok []) := by
  obtain ⟨cause, hset⟩ := Option.ne_none_iff_exists'.mp h
  simp only [ownSafeRelease, hset, hq]

end safeRequests

/-- Settles O23: each request by the latch, and SAFE_RELEASE of a SET latch by the qualified state of SAFE_N. -/
theorem safeRequestsActOnTheLatch : Obligations.SafeRequestsActOnTheLatch := by
  refine ⟨fun s r h => ⟨fun hl => ?_, fun hl => ?_⟩, fun s r h => ⟨fun hl => ?_, fun hl hq => ?_, fun hl hq => ?_⟩⟩
  · have hserve := serve_of_own h (ownSafeEnter_of_clear (s := takeRequest s) hl)
    rw [setLatch_of_clear (s := takeRequest s) hl] at hserve
    exact congrArg Host.Outcome.next hserve
  · exact congrArg Host.Outcome.next (serve_of_own_kept h (ownSafeEnter_of_set (s := takeRequest s) hl))
  · exact congrArg Host.Outcome.next (serve_of_own_kept h (ownSafeRelease_of_clear (s := takeRequest s) hl))
  · exact congrArg Host.Outcome.next (serve_of_own_kept h (ownSafeRelease_of_asserted (s := takeRequest s) hl hq))
  · exact congrArg Host.Outcome.next (serve_of_own h (ownSafeRelease_of_deasserted (s := takeRequest s) hl hq))

/-! ### A request that changes one lane (R92 to R97) -/

theorem ofNat_val_of_val {b : Byte} {lane : Lane} (h : lane.val = b.toNat) : BitVec.ofNat 8 lane.val = b := by
  rw [h, BitVec.ofNat_toNat, BitVec.setWidth_eq]

/-- The lane items with the request's own lane byte in front (R97, R175). -/
def laneItemsFor (laneByte : Byte) (lane : Lane) (t : State) : List Byte :=
  [laneByte, (t.lanes.get lane).mode.code, levelCode (t.lanes.get lane).level, (outPin t lane).code]

theorem laneItems_eq {laneByte : Byte} {lane : Lane} (h : lane.val = laneByte.toNat) (t : State) :
    laneItems lane t = laneItemsFor laneByte lane t := by
  rw [laneItems, be1, ofNat_val_of_val h]
  rfl

theorem setOutLane_get_self (lane : Lane) (s : State) : setOutLane lane (s.lanes.get lane) s = s := by
  rw [setOutLane, Lanes.set_get_self]
  rfl

section changeLane

variable {k : ReqKind} {own : List Byte → State → State × List Byte} {change : OutLane → Status × OutLane}
  {r : Request} {s : State} {laneByte : Byte} {lane : Lane} {status : Status} {l : OutLane}

theorem changeLane_of_bad_lane (h : 16 ≤ laneByte.toNat) : changeLane laneByte change s = (s, body .badValue []) := by
  simp only [changeLane, readLane_eq_none h]

theorem changeLane_of_lane (h : lane.val = laneByte.toNat) (hc : change (s.lanes.get lane) = (status, l)) :
    changeLane laneByte change s =
      (setOutLane lane l s, body status (laneItemsFor laneByte lane (setOutLane lane l s))) := by
  simp only [changeLane, readLane_of_val h, hc, laneItems_eq h]

theorem serve_changeLane_of_bad_lane (hf : Fresh k r s)
    (hown : own r.body (takeRequest s) = changeLane laneByte change (takeRequest s)) (h : 16 ≤ laneByte.toNat) :
    serve k own s = replied r [0x04] s :=
  serve_of_own_kept hf (hown.trans (changeLane_of_bad_lane h))

/-- A lane request leaves the record that its own checks make of the lane, and answers with the lane items of that record. -/
theorem serve_changeLane_of_lane (hf : Fresh k r s)
    (hown : own r.body (takeRequest s) = changeLane laneByte change (takeRequest s)) (h : lane.val = laneByte.toNat)
    (hc : change (s.lanes.get lane) = (status, l)) :
    serve k own s =
      replied r ([status.code] ++ laneItemsFor laneByte lane (setOutLane lane l s)) (setOutLane lane l s) :=
  serve_of_own hf (hown.trans (changeLane_of_lane h hc))

/-- A lane request that keeps the lane's record keeps the state. -/
theorem serve_changeLane_of_kept (hf : Fresh k r s)
    (hown : own r.body (takeRequest s) = changeLane laneByte change (takeRequest s)) (h : lane.val = laneByte.toNat)
    (hc : change (s.lanes.get lane) = (status, s.lanes.get lane)) :
    serve k own s = replied r ([status.code] ++ laneItemsFor laneByte lane s) s := by
  have hserve := serve_changeLane_of_lane hf hown h hc
  rwa [setOutLane_get_self] at hserve

end changeLane

/-! ### LANE_CONFIG (R92) -/

/-- The ranges of the three bytes behind the lane byte of a LANE_CONFIG (R92). -/
abbrev LaneConfigInRange (mode safe initial : Byte) : Prop := mode.toNat ≤ 1 ∧ safe.toNat ≤ 3 ∧ initial.toNat ≤ 2

theorem readLaneMode_isSome_iff (b : Byte) : (readLaneMode b).isSome = true ↔ b.toNat ≤ 1 := by
  rw [readLaneMode]
  split_ifs with h0 h1
  · simp [h0]
  · simp [h1]
  · simp only [Option.isSome_none, Bool.false_eq_true, false_iff]
    bv_omega

theorem readSafeLevel_isSome_iff (b : Byte) : (readSafeLevel b).isSome = true ↔ b.toNat ≤ 3 := by
  rw [readSafeLevel]
  split_ifs with h0 h1 h2 h3
  · simp [h0]
  · simp [h1]
  · simp [h2]
  · simp [h3]
  · simp only [Option.isSome_none, Bool.false_eq_true, false_iff]
    bv_omega

theorem readInitial_isSome_iff (b : Byte) : (readInitial b).isSome = true ↔ b.toNat ≤ 2 := by
  rw [readInitial]
  split_ifs with h0 h1 h2
  · simp [h0]
  · simp [h1]
  · simp [h2]
  · simp only [Option.isSome_none, Bool.false_eq_true, false_iff]
    bv_omega

/-- The modes that LANE_CONFIG does not set have codes above 1 (R92). -/
theorem readLaneMode_code {m : LaneMode} (h : m.code.toNat ≤ 1) : readLaneMode m.code = some m := by
  cases m with
  | off | scheduled => rfl
  | forcedHigh | forcedLow => exact absurd h (by decide)

theorem readSafeLevel_code (v : SafeLevel) : readSafeLevel v.code = some v := by
  cases v <;> rfl

theorem code_of_readSafeLevel {b : Byte} {v : SafeLevel} (h : readSafeLevel b = some v) : v.code = b := by
  rw [readSafeLevel] at h
  split_ifs at h with h0 h1 h2 h3 <;> cases h
  · exact h0.symm
  · exact h1.symm
  · exact h2.symm
  · exact h3.symm

theorem readInitial_levelCode (level : Level) : readInitial (levelCode level) = some (some level) := by
  cases level <;> rfl

section configureLane

variable {latch : Option SafeCause} {mode safe initial : Byte} {l : OutLane} {m : LaneMode} {v : SafeLevel}
  {i : Option Level}

theorem configureLane_of_out_of_range (h : ¬ LaneConfigInRange mode safe initial) :
    configureLane latch mode safe initial l = (.badValue, l) := by
  rw [LaneConfigInRange, ← readLaneMode_isSome_iff, ← readSafeLevel_isSome_iff, ← readInitial_isSome_iff] at h
  unfold configureLane
  split
  · rename_i hm hv hi
    simp [hm, hv, hi] at h
  · rfl

/-- In range, a SET latch refuses a change of the safe level, and only that (R92). -/
theorem configureLane_of_read (hm : readLaneMode mode = some m) (hv : readSafeLevel safe = some v)
    (hi : readInitial initial = some i) :
    configureLane latch mode safe initial l =
      if latch.isSome ∧ v ≠ l.safe then (.safeActive, l) else (.ok, l.configure m v i) := by
  simp only [configureLane, hm, hv, hi]

theorem configureLane_of_safe_active (h : LaneConfigInRange mode safe initial) (hl : latch ≠ none)
    (hs : safe ≠ l.safe.code) : configureLane latch mode safe initial l = (.safeActive, l) := by
  obtain ⟨hm, hv, hi⟩ := h
  obtain ⟨m, hm⟩ := Option.isSome_iff_exists.mp ((readLaneMode_isSome_iff mode).mpr hm)
  obtain ⟨v, hv⟩ := Option.isSome_iff_exists.mp ((readSafeLevel_isSome_iff safe).mpr hv)
  obtain ⟨i, hi⟩ := Option.isSome_iff_exists.mp ((readInitial_isSome_iff initial).mpr hi)
  have hchange : v ≠ l.safe := fun he => hs (he ▸ (code_of_readSafeLevel hv).symm)
  rw [configureLane_of_read hm hv hi, if_pos ⟨Option.isSome_iff_ne_none.mpr hl, hchange⟩]

theorem configureLane_of_accepted (hm : m.code.toNat ≤ 1) (hi : readInitial initial = some i)
    (hl : latch = none ∨ v = l.safe) :
    configureLane latch m.code v.code initial l = (.ok, l.configure m v i) := by
  have hkept : ¬ (latch.isSome ∧ v ≠ l.safe) := by
    rintro ⟨hset, hchange⟩
    exact Option.isSome_iff_ne_none.mp hset (hl.resolve_right hchange)
  rw [configureLane_of_read (readLaneMode_code hm) (readSafeLevel_code v) hi, if_neg hkept]

theorem configureLane_of_keep (hm : m.code.toNat ≤ 1) (hl : latch = none ∨ v = l.safe) :
    configureLane latch m.code v.code 2 l = (.ok, { l with mode := m, safe := v }) :=
  configureLane_of_accepted (i := none) hm rfl hl

/-- An initial level of 0 or 1 also cancels the pending pulse end (R92). -/
theorem configureLane_of_level {level : Level} (hm : m.code.toNat ≤ 1) (hl : latch = none ∨ v = l.safe) :
    configureLane latch m.code v.code (levelCode level) l = (.ok, ⟨m, level, none, v, l.hold⟩) :=
  configureLane_of_accepted hm (readInitial_levelCode level) hl

end configureLane

/-- Settles O51: LANE_CONFIG changes its lane by `configureLane`, whose checks fail in their order or whose record is taken. -/
theorem laneConfigSetsTheLane : Obligations.LaneConfigSetsTheLane := by
  intro s r laneByte mode safe initial h hbody
  have hown : ownLaneConfig r.body (takeRequest s) =
      changeLane laneByte (configureLane s.safe.latch mode safe initial) (takeRequest s) := by
    rw [hbody]
    rfl
  refine ⟨fun hbad => congrArg Host.Outcome.next (serve_changeLane_of_bad_lane h hown hbad), fun lane hlane => ?_⟩
  dsimp only
  refine ⟨fun hbad => ?_, fun hok hl hs => ?_, fun hok m v hm hv hl => ?_⟩
  · have hserve := serve_changeLane_of_kept h hown hlane (configureLane_of_out_of_range hbad)
    exact congrArg Host.Outcome.next hserve
  · have hserve := serve_changeLane_of_kept h hown hlane (configureLane_of_safe_active hok hl hs)
    exact congrArg Host.Outcome.next hserve
  · subst hm hv
    obtain ⟨hmode, -, -⟩ := hok
    refine ⟨fun hi => ?_, fun level hi => ?_⟩
    · subst hi
      have hserve := serve_changeLane_of_lane h hown hlane (configureLane_of_keep hmode hl)
      exact congrArg Host.Outcome.next hserve
    · subst hi
      have hserve := serve_changeLane_of_lane h hown hlane (configureLane_of_level (level := level) hmode hl)
      exact congrArg Host.Outcome.next hserve

/-! ### LANE_FORCE and LANE_RELEASE (R94, R95) -/

section forceAndRelease

variable {level : Byte} {l : OutLane}

theorem forceLane_high : forceLane 1 l = (.ok, { l with mode := .forcedHigh }) := rfl

theorem forceLane_low : forceLane 0 l = (.ok, { l with mode := .forcedLow }) := rfl

theorem forceLane_of_neither (h : 2 ≤ level.toNat) : forceLane level l = (.badValue, l) := by
  have h0 : level ≠ 0 := by bv_omega
  have h1 : level ≠ 1 := by bv_omega
  simp only [forceLane, readForce, h0, h1, if_false]

theorem releaseLane_of_forced (h : l.mode = .forcedHigh ∨ l.mode = .forcedLow) :
    releaseLane l = (.ok, { l with mode := .scheduled }) := by
  rcases h with h | h <;> simp only [releaseLane, h]

theorem releaseLane_of_not_forced (h : l.mode = .off ∨ l.mode = .scheduled) : releaseLane l = (.wrongMode, l) := by
  rcases h with h | h <;> simp only [releaseLane, h]

end forceAndRelease

/-- Settles O52: LANE_FORCE changes its lane by the level byte, LANE_RELEASE by the lane's mode. -/
theorem forceAndReleaseSetTheMode : Obligations.ForceAndReleaseSetTheMode := by
  intro s r laneByte lane
  dsimp only
  refine ⟨fun level h hbody => ?_, fun h hbody => ?_⟩
  · have hown : ownLaneForce r.body (takeRequest s) = changeLane laneByte (forceLane level) (takeRequest s) := by
      rw [hbody]
      rfl
    refine ⟨fun hbad => congrArg Host.Outcome.next (serve_changeLane_of_bad_lane h hown hbad), fun hlane =>
      ⟨fun hl => ?_, fun hl => ?_, fun hl => ?_⟩⟩
    · subst hl
      have hserve := serve_changeLane_of_lane h hown hlane (forceLane_high (l := s.lanes.get lane))
      exact congrArg Host.Outcome.next hserve
    · subst hl
      have hserve := serve_changeLane_of_lane h hown hlane (forceLane_low (l := s.lanes.get lane))
      exact congrArg Host.Outcome.next hserve
    · have hserve := serve_changeLane_of_kept h hown hlane (forceLane_of_neither hl)
      exact congrArg Host.Outcome.next hserve
  · have hown : ownLaneRelease r.body (takeRequest s) = changeLane laneByte releaseLane (takeRequest s) := by
      rw [hbody]
      rfl
    refine ⟨fun hbad => congrArg Host.Outcome.next (serve_changeLane_of_bad_lane h hown hbad), fun hlane =>
      ⟨fun hm => ?_, fun hm => ?_⟩⟩
    · have hserve := serve_changeLane_of_lane h hown hlane (releaseLane_of_forced hm)
      exact congrArg Host.Outcome.next hserve
    · have hserve := serve_changeLane_of_kept h hown hlane (releaseLane_of_not_forced hm)
      exact congrArg Host.Outcome.next hserve

/-! ### LANE_STATUS (R96) -/

section laneStatus

variable {laneByte : Byte} {lane : Lane} {s : State}

/-- The items of LANE_STATUS with the pulse's remaining ticks written out (R96, R175). -/
theorem laneStatusItems_eq (h : lane.val = laneByte.toNat) (s : State) :
    laneStatusItems lane s =
      [laneByte, (s.lanes.get lane).mode.code, levelCode (s.lanes.get lane).level]
        ++ (match (s.lanes.get lane).pulseEnd with
            | none => [0, 0, 0]
            | some e => [1] ++ be2 (e - s.tb.tick).toNat)
        ++ [(s.lanes.get lane).safe.code, (s.lanes.get lane).hold.code, latchCode s.safe.latch,
          safeNCode s.safe.qualified, (outPin s lane).code] := by
  rw [laneStatusItems, be1, ofNat_val_of_val h]
  cases (s.lanes.get lane).pulseEnd <;> rfl

theorem ownLaneStatus_of_bad_lane (h : 16 ≤ laneByte.toNat) :
    ownLaneStatus [laneByte] s = (s, body .badValue []) := by
  simp only [ownLaneStatus, List.head?_cons, Option.bind_some, readLane_eq_none h]

theorem ownLaneStatus_of_lane (h : lane.val = laneByte.toNat) :
    ownLaneStatus [laneByte] s =
      (s.setFlags { s.flags with settled := true }, body .ok (laneStatusItems lane s)) := by
  simp only [ownLaneStatus, List.head?_cons, Option.bind_some, readLane_of_val h]

end laneStatus

/-- Settles O53: LANE_STATUS reads the lane that its byte names, on the state with the request taken. -/
theorem laneStatusReportsTheLane : Obligations.LaneStatusReportsTheLane := by
  intro s r laneByte h hbody
  refine ⟨fun hbad => ?_, fun lane hlane => ?_⟩
  · exact congrArg Host.Outcome.next (serve_of_own_kept h (hbody ▸ ownLaneStatus_of_bad_lane hbad))
  · have hserve := serve_of_own (own := ownLaneStatus) h (hbody ▸ ownLaneStatus_of_lane hlane)
    rw [laneStatusItems_eq hlane] at hserve
    exact congrArg Host.Outcome.next hserve

end Sys2Proof.Machine
end

section
/-! SUPPORT. Proofs of the statements about the capture lanes: the sample of a pin, the group of edges qualified at a tick, and
the requests INPUT_CONFIG and LATCH_READ. -/

namespace Sys2Proof.Machine

open Sys2Proof Sys2Proof.Machine Sys2Proof.Claims

/-! ### One capture lane replaced, and one marked as sampled (R110) -/

/-- A lane has been sampled at this tick (R110). -/
def isSampled (s : State) (lane : Lane) : Bool := s.flags.sampled.getLsbD lane.val

section setInLane

variable (lane : Lane) (l : InLane) (s : State)

@[simp] theorem setInLane_lanes : (setInLane lane l s).capture.lanes = s.capture.lanes.set lane l := rfl
@[simp] theorem markSampled_lanes : (markSampled lane s).capture.lanes = s.capture.lanes := rfl

theorem setInLane_get_self : setInLane lane (s.capture.lanes.get lane) s = s := by
  rw [setInLane, Lanes.set_get_self]
  rfl

@[simp] theorem setInLane_setInLane (m : InLane) : setInLane lane m (setInLane lane l s) = setInLane lane m s := by
  simp [setInLane, State.setCapture, Lanes.set]

@[simp] theorem setInLane_isSampled (j : Lane) : isSampled (setInLane lane l s) j = isSampled s j := rfl

@[simp] theorem markSampled_isSampled (j : Lane) :
    isSampled (markSampled lane s) j = (isSampled s j || decide (lane = j)) := by
  have hbits : (markSampled lane s).flags.sampled = s.flags.sampled ||| BitVec.twoPow 16 lane.val := rfl
  rw [isSampled, isSampled, hbits, BitVec.getLsbD_or, BitVec.getLsbD_twoPow]
  simp [Fin.ext_iff]

end setInLane

/-! ### A pin sampled at the present tick (R110) -/

section sampleInput

variable {s : State} {lane : Lane}

theorem sampleInput_of_agrees (h : s.pins.inputs.get lane = (s.capture.lanes.get lane).qualified) :
    sampleInput lane s = markSampled lane (setInLane lane { s.capture.lanes.get lane with candidate := none } s) := by
  simp only [sampleInput, h, if_true]

theorem sampleInput_of_first (h : s.pins.inputs.get lane ≠ (s.capture.lanes.get lane).qualified)
    (hc : (s.capture.lanes.get lane).candidate = none) :
    sampleInput lane s =
      markSampled lane
        (setInLane lane { s.capture.lanes.get lane with candidate := some ⟨s.pins.inputs.get lane, s.tb.tick⟩ } s) := by
  simp only [sampleInput, h, hc, if_false]

/-- A candidate under way is not started again. -/
theorem sampleInput_of_candidate (h : s.pins.inputs.get lane ≠ (s.capture.lanes.get lane).qualified)
    (hc : (s.capture.lanes.get lane).candidate ≠ none) : sampleInput lane s = s := by
  obtain ⟨c, hc⟩ := Option.ne_none_iff_exists'.mp hc
  simp only [sampleInput, h, hc, if_false]

end sampleInput

theorem exec_inputLevelChange_of_sampled {s : State} {lane : Lane} (level : Level) (hr : s.phase = .running)
    (hf : s.flags.sampled.getLsbD lane.val = false) :
    exec (.inputLevelChange lane level) s =
      .next (sampleInput lane (s.setPins { s.pins with inputs := s.pins.inputs.set lane level })) := by
  simp only [exec, execInputLevelChange, running_iff.mpr hr, hf, Bool.not_false, Bool.and_self, if_true]

theorem exec_inputLevelChange_of_not_sampled {s : State} {lane : Lane} (level : Level)
    (h : s.phase ≠ .running ∨ s.flags.sampled.getLsbD lane.val = true) :
    exec (.inputLevelChange lane level) s =
      .next (s.setPins { s.pins with inputs := s.pins.inputs.set lane level }) := by
  rcases h with h | h <;> simp [exec, execInputLevelChange, running_iff, h]

/-- Settles O25: the sample is `sampleInput` on the state with the pin moved, by the level and the candidate. -/
theorem inputLevelIsSampled : Obligations.InputLevelIsSampled := by
  intro lane level s
  refine ⟨fun hr hf => ?_, fun h => exec_inputLevelChange_of_not_sampled level h⟩
  rw [exec_inputLevelChange_of_sampled level hr hf]
  have hpin : (s.pins.inputs.set lane level).get lane = level := Lanes.get_set_self ..
  refine ⟨fun h => ?_, fun h hn => ?_, fun h hn => ?_⟩
  · exact congrArg Host.Outcome.next (sampleInput_of_agrees (hpin.trans h))
  · have hsample := sampleInput_of_first (s := s.setPins { s.pins with inputs := s.pins.inputs.set lane level })
      (fun he => h (hpin.symm.trans he)) hn
    rw [State.setPins_pins, hpin] at hsample
    exact congrArg Host.Outcome.next hsample
  · exact congrArg Host.Outcome.next (sampleInput_of_candidate (fun he => h (hpin.symm.trans he)) hn)

/-! ### All lanes in ascending order -/

/-- What holds before the first lane, and is kept when one lane more is taken, holds when every lane has been taken. -/
theorem foldl_allLanes_induct {P : List Lane → State → Prop} {f : State → Lane → State} {s : State} (start : P [] s)
    (step : ∀ done lane t, lane ∉ done → P done t → P (done ++ [lane]) (f t lane)) :
    P allLanes (allLanes.foldl f s) := by
  have general : ∀ ls : List Lane, ls.Nodup → P ls (ls.foldl f s) := by
    intro ls
    induction ls using List.reverseRecOn with
    | nil => exact fun _ => start
    | append_singleton ls lane ih =>
      intro hnd
      obtain ⟨hls, -, hdisj⟩ := List.nodup_append.mp hnd
      rw [List.foldl_append]
      exact step ls lane _ (fun hmem => hdisj _ hmem _ (List.mem_singleton_self lane) rfl) (ih hls)
  exact general allLanes (by decide)

theorem filterMap_allLanes_of_single {β : Type} {f : Lane → Option β} {lane : Lane}
    (h : ∀ other, other ≠ lane → f other = none) : allLanes.filterMap f = (f lane).toList := by
  obtain ⟨front, back, hsplit⟩ := List.append_of_mem (mem_allLanes lane)
  have hnd : (front ++ lane :: back).Nodup := hsplit ▸ (by decide : allLanes.Nodup)
  rw [List.nodup_middle, List.nodup_cons, List.mem_append, not_or] at hnd
  obtain ⟨⟨hfront, hback⟩, -⟩ := hnd
  have hf : front.filterMap f = [] :=
    List.filterMap_eq_nil_iff.mpr fun other hm => h other fun he => hfront (he ▸ hm)
  have hb : back.filterMap f = [] :=
    List.filterMap_eq_nil_iff.mpr fun other hm => h other fun he => hback (he ▸ hm)
  rw [hsplit, List.filterMap_append, hf, List.nil_append, List.filterMap_cons, hb]
  cases f lane <;> rfl

/-! ### The lanes that the tick has not sampled yet (R110) -/

/-- A lane's record once its pin has been sampled at this tick, where that starts or abandons a candidate (R110). -/
def laneSampled (s : State) (lane : Lane) : InLane :=
  let l := s.capture.lanes.get lane
  if inputChangeDue s lane = true then
    { l with
      candidate := if s.pins.inputs.get lane = l.qualified then none else some ⟨s.pins.inputs.get lane, s.tb.tick⟩ }
  else l

section laneSampled

variable {s : State} {lane : Lane}

theorem laneSampled_of_due (h : inputChangeDue s lane = true) :
    laneSampled s lane =
      { s.capture.lanes.get lane with
        candidate :=
          if s.pins.inputs.get lane = (s.capture.lanes.get lane).qualified then none
          else some ⟨s.pins.inputs.get lane, s.tb.tick⟩ } := if_pos h

theorem laneSampled_of_not_due (h : inputChangeDue s lane = false) : laneSampled s lane = s.capture.lanes.get lane :=
  if_neg (by simp [h])

/-- A sample starts or abandons a candidate, and leaves the rest of its lane's record. -/
theorem laneSampled_eq (s : State) (lane : Lane) :
    laneSampled s lane = { s.capture.lanes.get lane with candidate := (laneSampled s lane).candidate } := by
  cases h : inputChangeDue s lane with
  | true => rw [laneSampled_of_due h]
  | false => rw [laneSampled_of_not_due h]

/-- A change to sample is a candidate on a pin that agrees with the qualified level, or none on a pin that differs. -/
theorem candidate_of_inputChangeDue (h : inputChangeDue s lane = true) :
    (s.capture.lanes.get lane).candidate.isSome =
      decide (s.pins.inputs.get lane = (s.capture.lanes.get lane).qualified) := by
  simp only [inputChangeDue, Bool.and_eq_true, beq_iff_eq] at h
  exact h.2

theorem unsampled_of_inputChangeDue (h : inputChangeDue s lane = true) : s.flags.sampled.getLsbD lane.val = false := by
  simp only [inputChangeDue, Bool.and_eq_true, Bool.not_eq_true'] at h
  exact h.1.2

theorem sampleInput_of_due (h : inputChangeDue s lane = true) :
    sampleInput lane s = markSampled lane (setInLane lane (laneSampled s lane) s) := by
  have hc := candidate_of_inputChangeDue h
  rw [laneSampled_of_due h]
  by_cases hp : s.pins.inputs.get lane = (s.capture.lanes.get lane).qualified
  · rw [sampleInput_of_agrees hp, if_pos hp]
  · have hnone : (s.capture.lanes.get lane).candidate = none := by simpa [hp] using hc
    rw [sampleInput_of_first hp hnone, if_neg hp]

end laneSampled

/-- The state `t` in which the tick has sampled the lanes `done` of `s`, and nothing else has changed. -/
structure SampledUpTo (s : State) (done : List Lane) (t : State) : Prop where
  lanes : ∀ lane, t.capture.lanes.get lane = if lane ∈ done then laneSampled s lane else s.capture.lanes.get lane
  marks : ∀ lane, isSampled t lane = (isSampled s lane || (decide (lane ∈ done) && inputChangeDue s lane))
  rest : t = { s with
    capture := { s.capture with lanes := t.capture.lanes }, flags := { s.flags with sampled := t.flags.sampled } }

namespace SampledUpTo

variable {s t : State} {done : List Lane} {lane : Lane}

theorem phase (h : SampledUpTo s done t) : t.phase = s.phase := by rw [h.rest]
theorem pins (h : SampledUpTo s done t) : t.pins = s.pins := by rw [h.rest]
theorem tb (h : SampledUpTo s done t) : t.tb = s.tb := by rw [h.rest]

/-- A lane that has not been reached yet stands as it did. -/
theorem inputChangeDue_eq (h : SampledUpTo s done t) (hl : lane ∉ done) : inputChangeDue t lane = inputChangeDue s lane := by
  have hlane := h.lanes lane
  have hmark : isSampled t lane = isSampled s lane := by simp [h.marks, hl]
  rw [isSampled, isSampled] at hmark
  rw [if_neg hl] at hlane
  simp only [inputChangeDue, running, hlane, hmark, h.phase, h.pins]

theorem laneSampled_eq (h : SampledUpTo s done t) (hl : lane ∉ done) : laneSampled t lane = laneSampled s lane := by
  have hlane := h.lanes lane
  rw [if_neg hl] at hlane
  simp only [laneSampled, h.inputChangeDue_eq hl, hlane, h.pins, h.tb]

theorem sample (h : SampledUpTo s done t) (hl : lane ∉ done) :
    SampledUpTo s (done ++ [lane]) (if inputChangeDue t lane then sampleInput lane t else t) := by
  have hchange := h.inputChangeDue_eq hl
  cases hdue : inputChangeDue s lane with
  | true =>
    rw [hdue] at hchange
    rw [if_pos hchange, sampleInput_of_due hchange, h.laneSampled_eq hl]
    refine ⟨fun j => ?_, fun j => ?_, ?_⟩
    · by_cases hj : lane = j
      · subst hj
        simp
      · simp [Lanes.get_set_of_ne _ _ hj, h.lanes, Ne.symm hj]
    · by_cases hj : lane = j
      · subst hj
        simp [hdue]
      · simp [h.marks, hj, Ne.symm hj]
    · rw [h.rest]
      rfl
  | false =>
    rw [hdue] at hchange
    rw [if_neg (by simp [hchange])]
    refine ⟨fun j => ?_, fun j => ?_, h.rest⟩
    · by_cases hj : j = lane
      · subst hj
        simp [h.lanes, hl, laneSampled_of_not_due hdue]
      · simp [h.lanes, hj]
    · by_cases hj : j = lane
      · subst hj
        simp [h.marks, hl, hdue]
      · simp [h.marks, hj]

end SampledUpTo

theorem sampleRest_sampledUpTo (s : State) : SampledUpTo s allLanes (sampleRest s) :=
  foldl_allLanes_induct ⟨fun _ => rfl, fun _ => by simp, rfl⟩ fun _ _ _ hl h => h.sample hl

section sampleRest

variable (s : State) {lane : Lane}

@[simp] theorem sampleRest_lane (lane : Lane) : (sampleRest s).capture.lanes.get lane = laneSampled s lane := by
  rw [(sampleRest_sampledUpTo s).lanes, if_pos (mem_allLanes lane)]

theorem sampleRest_isSampled (lane : Lane) :
    isSampled (sampleRest s) lane = (isSampled s lane || inputChangeDue s lane) := by
  simp [(sampleRest_sampledUpTo s).marks, mem_allLanes]

theorem sampleRest_rest :
    sampleRest s = { s with
      capture := { s.capture with lanes := (sampleRest s).capture.lanes }
      flags := { s.flags with sampled := (sampleRest s).flags.sampled } } :=
  (sampleRest_sampledUpTo s).rest

theorem sampleRest_of_no_change {s : State} (h : ∀ lane, inputChangeDue s lane = false) : sampleRest s = s := by
  have hkeep : ∀ lane, (if inputChangeDue s lane then sampleInput lane s else s) = s := fun lane => by simp [h lane]
  exact List.foldl_fixed' hkeep allLanes

theorem laneDue_sampleRest {s : State} (h : inputChangeDue s lane = false) :
    laneDue (sampleRest s) lane = laneDue s lane := by
  have hmark := sampleRest_isSampled s lane
  rw [h, Bool.or_false, isSampled, isSampled] at hmark
  simp only [laneDue, sampleRest_lane, laneSampled_of_not_due h, hmark, (sampleRest_sampledUpTo s).tb,
    (sampleRest_sampledUpTo s).pins]

end sampleRest

/-! ### What one lane of the group gives (R111 to R118) -/

theorem passes_iff (e : EdgeSetting) (level : Level) : e.passes (dirTo level) = true ↔ Passes e level := by
  cases e <;> cases level <;> simp [EdgeSetting.passes, dirTo, Passes]

/-- The gate's two shapes, plain and wrapping around the frame's end, as one disjunction (R114). -/
theorem gateOpen_iff (g : Option Gate) (o : Nat) : gateOpen g o = true ↔ OpenAt g o := by
  cases g with
  | none => simp [gateOpen, OpenAt]
  | some g =>
    by_cases h : g.first < g.last
    · simp [gateOpen, OpenAt, Gate.isOpen, h]
    · simp [gateOpen, OpenAt, Gate.isOpen, h, Nat.not_lt.mp h]

theorem openAt_iff (gate : Option Gate) (o : Nat) :
    OpenAt gate o ↔ ∀ g, gate = some g →
      (g.first < g.last → g.first ≤ o ∧ o < g.last) ∧ (g.last ≤ g.first → g.first ≤ o ∨ o < g.last) := by
  cases gate with
  | none => simp [OpenAt]
  | some g =>
    by_cases h : g.first < g.last
    · simp [OpenAt, h]
    · simp [OpenAt, h, Nat.not_lt.mp h]

theorem dirTo_eq (level : Level) : dirTo level = if level = .high then .rise else .fall := by
  cases level <;> rfl

theorem candidate_of_laneDue {s : State} {lane : Lane} (h : laneDue s lane = true) :
    ∃ c, (s.capture.lanes.get lane).candidate = some c := by
  cases hc : (s.capture.lanes.get lane).candidate with
  | none => simp [laneDue, hc] at h
  | some c => exact ⟨c, rfl⟩

/-- A lane's record once its edge of the group has been qualified, before the delivery (R110). -/
def laneQualified (s : State) (lane : Lane) : InLane :=
  let l := s.capture.lanes.get lane
  match l.candidate with
  | some c => if laneDue s lane = true then { l with qualified := c.level, candidate := none } else l
  | none => l

/-- A lane's latch record once its edge of the group has been delivered (R118). -/
def laneLatched (before : BitVec 16) (s : State) (lane : Lane) : LatchRecord :=
  let l := s.capture.lanes.get lane
  match l.delivery, captured before s lane with
  | .latch, some (edge, frame, offset, quality) => l.latch.fill edge frame offset quality
  | _, _ => l.latch

/-- A lane's record once its edge of the group has been taken. -/
def laneTaken (before : BitVec 16) (s : State) (lane : Lane) : InLane :=
  { laneQualified s lane with latch := laneLatched before s lane }

/-- What a lane's edge of the group brings to the capture queue (R116). -/
def laneQueued (before : BitVec 16) (s : State) (lane : Lane) : Option (Lane × EdgeDir × FrameNo × Nat × TrackState) :=
  if (s.capture.lanes.get lane).delivery = .queue then (captured before s lane).map fun x => (lane, x) else none

/-- The records of queued edges, numbered on from a sequence number (R117). -/
def numbered (first : BitVec 16) (caught : List (Lane × EdgeDir × FrameNo × Nat × TrackState)) : List CaptureRecord :=
  caught.zipIdx.map fun ((lane, edge, frame, offset, quality), i) =>
    ⟨lane, edge, first + BitVec.ofNat 16 i, frame, offset, quality⟩

theorem groupRecords_eq (before : BitVec 16) (s : State) :
    groupRecords before s = numbered s.capture.seq (allLanes.filterMap (laneQueued before s)) := rfl

theorem numbered_length (first : BitVec 16) (caught : List (Lane × EdgeDir × FrameNo × Nat × TrackState)) :
    (numbered first caught).length = caught.length := by
  simp [numbered]

/-- The edges behind others are numbered on from them. -/
theorem numbered_append (first : BitVec 16) (xs ys : List (Lane × EdgeDir × FrameNo × Nat × TrackState)) :
    numbered first (xs ++ ys) = numbered first xs ++ numbered (first + BitVec.ofNat 16 xs.length) ys := by
  rw [numbered, List.zipIdx_append, List.map_append]
  congr 1
  rw [numbered, Nat.zero_add, List.zipIdx_eq_map_add, List.map_map]
  refine List.map_congr_left fun ⟨⟨lane, edge, frame, offset, quality⟩, i⟩ _ => ?_
  simp only [Function.comp_apply, BitVec.ofNat_add, BitVec.add_assoc]

section group

variable {before : BitVec 16} {s : State} {lane : Lane} {c : LevelCandidate}

theorem captured_of_not_due (h : laneDue s lane = false) : captured before s lane = none := by
  cases hc : (s.capture.lanes.get lane).candidate <;> simp [captured, hc, h]

theorem captured_of_due (hc : (s.capture.lanes.get lane).candidate = some c) (hd : laneDue s lane = true) :
    captured before s lane =
      if Passes (s.capture.lanes.get lane).edge c.level ∧
          OpenAt (s.capture.lanes.get lane).gate (edgeStamp s c.start).2 then
        some (dirTo c.level, (edgeStamp s c.start).1, (edgeStamp s c.start).2, qualityOf before s lane)
      else none := by
  simp only [captured, hc, hd, true_and, Option.bind_some, dirTo_eq, qualityOf]

theorem laneQualified_of_due (hc : (s.capture.lanes.get lane).candidate = some c) (hd : laneDue s lane = true) :
    laneQualified s lane = { s.capture.lanes.get lane with qualified := c.level, candidate := none } := by
  simp only [laneQualified, hc, hd, if_true]

theorem laneQualified_of_not_due (h : laneDue s lane = false) : laneQualified s lane = s.capture.lanes.get lane := by
  cases hc : (s.capture.lanes.get lane).candidate <;> simp [laneQualified, hc, h]

theorem laneLatched_of_not_captured (h : captured before s lane = none) :
    laneLatched before s lane = (s.capture.lanes.get lane).latch := by
  cases hdel : (s.capture.lanes.get lane).delivery <;> simp only [laneLatched, hdel, h]

theorem laneLatched_of_queue (h : (s.capture.lanes.get lane).delivery = .queue) :
    laneLatched before s lane = (s.capture.lanes.get lane).latch := by
  simp only [laneLatched, h]

theorem laneLatched_of_latch {edge : EdgeDir} {frame : FrameNo} {offset : Nat} {quality : TrackState}
    (h : (s.capture.lanes.get lane).delivery = .latch)
    (hcap : captured before s lane = some (edge, frame, offset, quality)) :
    laneLatched before s lane = (s.capture.lanes.get lane).latch.fill edge frame offset quality := by
  simp only [laneLatched, h, hcap]

theorem laneQueued_of_not_captured (h : captured before s lane = none) : laneQueued before s lane = none := by
  simp [laneQueued, h]

theorem laneQueued_of_latch (h : (s.capture.lanes.get lane).delivery = .latch) : laneQueued before s lane = none := by
  simp [laneQueued, h]

theorem laneQueued_of_queue (h : (s.capture.lanes.get lane).delivery = .queue) :
    laneQueued before s lane = (captured before s lane).map fun x => (lane, x) := if_pos h

theorem laneTaken_of_not_due (h : laneDue s lane = false) : laneTaken before s lane = s.capture.lanes.get lane := by
  rw [laneTaken, laneQualified_of_not_due h, laneLatched_of_not_captured (captured_of_not_due h)]

/-- Taking an edge leaves its lane's configuration (R106). -/
theorem laneTaken_config (before : BitVec 16) (s : State) (lane : Lane) :
    (laneTaken before s lane).edge = (s.capture.lanes.get lane).edge ∧
      (laneTaken before s lane).deglitch = (s.capture.lanes.get lane).deglitch ∧
      (laneTaken before s lane).gate = (s.capture.lanes.get lane).gate ∧
      (laneTaken before s lane).delivery = (s.capture.lanes.get lane).delivery := by
  cases hd : laneDue s lane with
  | false =>
    rw [laneTaken_of_not_due hd]
    exact ⟨rfl, rfl, rfl, rfl⟩
  | true =>
    obtain ⟨c, hc⟩ := candidate_of_laneDue hd
    rw [laneTaken, laneQualified_of_due hc hd]
    exact ⟨rfl, rfl, rfl, rfl⟩

theorem laneTaken_qualified (hc : (s.capture.lanes.get lane).candidate = some c) (hd : laneDue s lane = true) :
    (laneTaken before s lane).qualified = c.level ∧ (laneTaken before s lane).candidate = none := by
  rw [laneTaken, laneQualified_of_due hc hd]
  exact ⟨rfl, rfl⟩

/-- The state with one lane's edge of the group taken: its lane's record, and the record that it brings to the queue. -/
def edgeTaken (before : BitVec 16) (lane : Lane) (s : State) : State :=
  { s with
    capture :=
      ⟨s.capture.lanes.set lane (laneTaken before s lane),
        s.capture.seq + BitVec.ofNat 16 (laneQueued before s lane).toList.length⟩
    cq := (numbered s.capture.seq (laneQueued before s lane).toList).foldl CaptureQueue.arrive s.cq }

/-- An edge that brings nothing to the queue changes its lane alone. -/
theorem edgeTaken_of_not_queued (h : laneQueued before s lane = none) :
    edgeTaken before lane s = setInLane lane (laneTaken before s lane) s := by
  simp [edgeTaken, h, setInLane, State.setCapture, numbered]

theorem groupLane_of_not_due {quality : Lane → TrackState} (h : laneDue s lane = false) : groupLane quality lane s = s := by
  cases hc : (s.capture.lanes.get lane).candidate <;> simp [groupLane, hc, h]

theorem groupLane_of_due {quality : Lane → TrackState} (hc : (s.capture.lanes.get lane).candidate = some c)
    (hd : laneDue s lane = true) : groupLane quality lane s = qualifyLane (quality lane) lane c s := by
  simp only [groupLane, hc, hd, if_true]

/-- One lane's edge qualified, with the filter and the gate as R112 states them. -/
theorem qualifyLane_eq (quality : TrackState) (lane : Lane) (c : LevelCandidate) (s : State) :
    qualifyLane quality lane c s =
      if Passes (s.capture.lanes.get lane).edge c.level ∧
          OpenAt (s.capture.lanes.get lane).gate (edgeStamp s c.start).2 then
        deliver lane (dirTo c.level) (edgeStamp s c.start).1 (edgeStamp s c.start).2 quality
          (setInLane lane { s.capture.lanes.get lane with qualified := c.level, candidate := none } s)
      else setInLane lane { s.capture.lanes.get lane with qualified := c.level, candidate := none } s := by
  simp only [qualifyLane, Bool.and_eq_true, passes_iff, gateOpen_iff]

theorem deliver_of_queue {edge : EdgeDir} {frame : FrameNo} {offset : Nat} {quality : TrackState}
    (h : (s.capture.lanes.get lane).delivery = .queue) :
    deliver lane edge frame offset quality s =
      (s.setCapture { s.capture with seq := s.capture.seq + 1 }).setCq
        (s.cq.arrive ⟨lane, edge, s.capture.seq, frame, offset, quality⟩) := by
  simp only [deliver, h]

theorem deliver_of_latch {edge : EdgeDir} {frame : FrameNo} {offset : Nat} {quality : TrackState}
    (h : (s.capture.lanes.get lane).delivery = .latch) :
    deliver lane edge frame offset quality s =
      setInLane lane
        { s.capture.lanes.get lane with latch := (s.capture.lanes.get lane).latch.fill edge frame offset quality } s := by
  simp only [deliver, h]

/-- The group's operation on one lane is the edge taken: by whether the lane is due, whether its edge is captured, and where a
captured edge goes (R110 to R118). -/
theorem groupLane_eq (before : BitVec 16) (s : State) (lane : Lane) :
    groupLane (qualityOf before s) lane s = edgeTaken before lane s := by
  cases hd : laneDue s lane with
  | false =>
    rw [groupLane_of_not_due hd, edgeTaken_of_not_queued (laneQueued_of_not_captured (captured_of_not_due hd)),
      laneTaken_of_not_due hd, setInLane_get_self]
  | true =>
    obtain ⟨c, hc⟩ := candidate_of_laneDue hd
    have hcap := captured_of_due (before := before) hc hd
    rw [groupLane_of_due hc hd, qualifyLane_eq]
    by_cases hopen : Passes (s.capture.lanes.get lane).edge c.level ∧
        OpenAt (s.capture.lanes.get lane).gate (edgeStamp s c.start).2
    · rw [if_pos hopen] at hcap ⊢
      cases hdel : (s.capture.lanes.get lane).delivery with
      | queue =>
        have hqueued := laneQueued_of_queue (before := before) hdel
        rw [hcap] at hqueued
        rw [deliver_of_queue (by simpa using hdel), edgeTaken, laneTaken, laneQualified_of_due hc hd,
          laneLatched_of_queue hdel, hqueued]
        simp [numbered, setInLane, State.setCapture, State.setCq]
      | latch =>
        rw [deliver_of_latch (by simpa using hdel), edgeTaken_of_not_queued (laneQueued_of_latch hdel), laneTaken,
          laneQualified_of_due hc hd, laneLatched_of_latch hdel hcap]
        simp
    · rw [if_neg hopen] at hcap ⊢
      rw [edgeTaken_of_not_queued (laneQueued_of_not_captured hcap), laneTaken, laneQualified_of_due hc hd,
        laneLatched_of_not_captured hcap]

end group

/-! ### The whole group (R117, R125, log 11) -/

/-- What a lane's edge gives rests on nothing of the group but the lane's own record. -/
theorem captured_congr {before : BitVec 16} {s : State} {lane : Lane} {x : Capture} (q : CaptureQueue)
    (h : x.lanes.get lane = s.capture.lanes.get lane) :
    captured before { s with capture := x, cq := q } lane = captured before s lane := by
  have hdue : laneDue { s with capture := x, cq := q } lane = laneDue s lane := by simp only [laneDue, h]
  simp only [captured, hdue, h]
  rfl

theorem laneTaken_congr {before : BitVec 16} {s : State} {lane : Lane} {x : Capture} (q : CaptureQueue)
    (h : x.lanes.get lane = s.capture.lanes.get lane) :
    laneTaken before { s with capture := x, cq := q } lane = laneTaken before s lane := by
  have hdue : laneDue { s with capture := x, cq := q } lane = laneDue s lane := by simp only [laneDue, h]
  simp only [laneTaken, laneQualified, laneLatched, captured_congr q h, hdue, h]

theorem laneQueued_congr {before : BitVec 16} {s : State} {lane : Lane} {x : Capture} (q : CaptureQueue)
    (h : x.lanes.get lane = s.capture.lanes.get lane) :
    laneQueued before { s with capture := x, cq := q } lane = laneQueued before s lane := by
  simp only [laneQueued, captured_congr q h, h]

/-- The state `t` in which the edges of the lanes `done` of `s` have been taken in their order, and nothing else has changed. -/
structure TakenUpTo (before : BitVec 16) (s : State) (done : List Lane) (t : State) : Prop where
  lanes : ∀ lane, t.capture.lanes.get lane = if lane ∈ done then laneTaken before s lane else s.capture.lanes.get lane
  seq : t.capture.seq = s.capture.seq + BitVec.ofNat 16 (done.filterMap (laneQueued before s)).length
  cq : t.cq = (numbered s.capture.seq (done.filterMap (laneQueued before s))).foldl CaptureQueue.arrive s.cq
  rest : t = { s with capture := t.capture, cq := t.cq }

theorem TakenUpTo.take {before : BitVec 16} {s t : State} {done : List Lane} {lane : Lane} (h : TakenUpTo before s done t)
    (hl : lane ∉ done) : TakenUpTo before s (done ++ [lane]) (groupLane (qualityOf before s) lane t) := by
  have hlane : t.capture.lanes.get lane = s.capture.lanes.get lane := by rw [h.lanes, if_neg hl]
  have hquality : qualityOf before s = qualityOf before t := by
    rw [h.rest]
    rfl
  have htaken : laneTaken before t lane = laneTaken before s lane := by
    rw [h.rest]
    exact laneTaken_congr _ hlane
  have hqueued : laneQueued before t lane = laneQueued before s lane := by
    rw [h.rest]
    exact laneQueued_congr _ hlane
  have hsnoc : (done ++ [lane]).filterMap (laneQueued before s) =
      done.filterMap (laneQueued before s) ++ (laneQueued before s lane).toList := by
    rw [List.filterMap_append]
    cases hq : laneQueued before s lane <;> simp [hq]
  rw [hquality, groupLane_eq, edgeTaken, htaken, hqueued]
  refine ⟨fun j => ?_, ?_, ?_, ?_⟩
  · by_cases hj : lane = j
    · subst hj
      simp
    · simp [Lanes.get_set_of_ne _ _ hj, h.lanes, Ne.symm hj]
  · rw [hsnoc, List.length_append, BitVec.ofNat_add, ← BitVec.add_assoc, h.seq]
  · rw [hsnoc, numbered_append, List.foldl_append, h.cq, h.seq]
  · rw [h.rest]

/-- The state `t` in which the group of `s` has been taken: the lanes not sampled yet are sampled, then the edges are taken in
ascending order of lane. -/
structure GroupTaken (before : BitVec 16) (s t : State) : Prop where
  lanes : ∀ lane, t.capture.lanes.get lane = laneTaken before (sampleRest s) lane
  seq : t.capture.seq = s.capture.seq + BitVec.ofNat 16 (groupRecords before (sampleRest s)).length
  cq : t.cq = (groupRecords before (sampleRest s)).foldl CaptureQueue.arrive s.cq
  flags : t.flags = { (if edgeOfThisTick (sampleRest s) then offsetUsed s else s).flags with sampled := 0xFFFF }
  rest : t = { s with capture := t.capture, cq := t.cq, flags := t.flags }

/-- The state that the group's edges are taken from: the lanes sampled, and the offset used where an edge is of this tick. -/
def groupStart (s : State) : State :=
  if edgeOfThisTick (sampleRest s) then useOffset (sampleRest s) else sampleRest s

theorem groupStart_eq (s : State) :
    groupStart s = { s with capture := (sampleRest s).capture, flags := (groupStart s).flags } := by
  rw [groupStart]
  split
  · rw [sampleRest_rest]
    rfl
  · rw [sampleRest_rest]

/-- Using the tick's offset marks the tick alone, which no lane reads. -/
theorem laneTaken_useOffset (before : BitVec 16) (s : State) (lane : Lane) :
    laneTaken before (useOffset s) lane = laneTaken before s lane := rfl

theorem laneQueued_useOffset (before : BitVec 16) (s : State) (lane : Lane) :
    laneQueued before (useOffset s) lane = laneQueued before s lane := rfl

theorem laneTaken_groupStart (before : BitVec 16) (s : State) (lane : Lane) :
    laneTaken before (groupStart s) lane = laneTaken before (sampleRest s) lane := by
  rw [groupStart, apply_ite (laneTaken before · lane), laneTaken_useOffset, ite_self]

theorem laneQueued_groupStart (before : BitVec 16) (s : State) :
    laneQueued before (groupStart s) = laneQueued before (sampleRest s) := by
  funext lane
  rw [groupStart, apply_ite (laneQueued before · lane), laneQueued_useOffset, ite_self]

theorem qualityOf_groupStart (before : BitVec 16) (s : State) : qualityOf before s = qualityOf before (groupStart s) := by
  rw [groupStart, sampleRest_rest]
  split <;> rfl

theorem useOffset_sampleRest_flags (s : State) :
    (useOffset (sampleRest s)).flags = { (offsetUsed s).flags with sampled := (sampleRest s).flags.sampled } := by
  rw [sampleRest_rest]
  rfl

theorem groupStart_flags (s : State) (sampled : BitVec 16) :
    { (groupStart s).flags with sampled := sampled } =
      { (if edgeOfThisTick (sampleRest s) then offsetUsed s else s).flags with sampled := sampled } := by
  rw [groupStart]
  split
  · rw [useOffset_sampleRest_flags]
  · rw [sampleRest_rest]

/-- EDGE_QUALIFIED, where an edge is due, takes the group: every lane sampled, then every edge from one and the same start,
since no edge taken changes what another one gives. -/
theorem exec_edgeQualified {s : State} (before : BitVec 16) (h : edgesDue s = true) :
    ∃ t, exec (.edgeQualified before) s = .next t ∧ GroupTaken before s t := by
  have hfold : TakenUpTo before (groupStart s) allLanes
      (allLanes.foldl (fun t lane => groupLane (qualityOf before s) lane t) (groupStart s)) :=
    foldl_allLanes_induct ⟨fun _ => rfl, by simp, rfl, rfl⟩ fun _ _ _ hl ht => by
      rw [qualityOf_groupStart]
      exact ht.take hl
  generalize hu : allLanes.foldl (fun t lane => groupLane (qualityOf before s) lane t) (groupStart s) = u at hfold
  have hseq : (groupStart s).capture.seq = s.capture.seq := by rw [groupStart_eq, sampleRest_rest]
  have hseq' : (sampleRest s).capture.seq = s.capture.seq := by rw [sampleRest_rest]
  have hcq : (groupStart s).cq = s.cq := by rw [groupStart_eq]
  have hflags : u.flags = (groupStart s).flags := by rw [hfold.rest]
  refine ⟨u.setFlags { u.flags with sampled := 0xFFFF }, ?_, fun lane => ?_, ?_, ?_, ?_, ?_⟩
  · rw [← hu]
    simp only [exec, execEdgeQualified, h, if_true, groupStart]
  · rw [State.setFlags_capture, hfold.lanes, if_pos (mem_allLanes lane), laneTaken_groupStart]
  · rw [State.setFlags_capture, hfold.seq, laneQueued_groupStart, hseq, groupRecords_eq, numbered_length]
  · rw [State.setFlags_cq, hfold.cq, laneQueued_groupStart, hseq, hcq, groupRecords_eq, hseq']
  · rw [State.setFlags_flags, hflags, groupStart_flags]
  · rw [hfold.rest, groupStart_eq]
    rfl

/-- A due candidate whose lane still has a change to sample is a glitch: the pin agrees with the qualified level, and so does
the candidate's level. -/
theorem level_of_changeDue_of_laneDue {s : State} {lane : Lane} {c : LevelCandidate}
    (hc : (s.capture.lanes.get lane).candidate = some c) (hd : laneDue s lane = true)
    (hchange : inputChangeDue s lane = true) :
    s.pins.inputs.get lane = (s.capture.lanes.get lane).qualified ∧ c.level = (s.capture.lanes.get lane).qualified := by
  have hagrees : s.pins.inputs.get lane = (s.capture.lanes.get lane).qualified := by
    have h := candidate_of_inputChangeDue hchange
    rw [hc] at h
    exact of_decide_eq_true h.symm
  have hlevel : c.level = s.pins.inputs.get lane := by
    simp only [laneDue, hc, unsampled_of_inputChangeDue hchange, Bool.false_or, Bool.and_eq_true, decide_eq_true_eq] at hd
    exact hd.2
  exact ⟨hagrees, hlevel.trans hagrees⟩

theorem laneTaken_sampleRest_of_due {before : BitVec 16} {s : State} {lane : Lane} {c : LevelCandidate}
    (hc : (s.capture.lanes.get lane).candidate = some c) (hd : laneDue s lane = true) :
    (laneTaken before (sampleRest s) lane).qualified = c.level ∧
      (laneTaken before (sampleRest s) lane).candidate = none := by
  cases hchange : inputChangeDue s lane with
  | false =>
    have hkept := (sampleRest_lane s lane).trans (laneSampled_of_not_due hchange)
    exact laneTaken_qualified (hkept ▸ hc) ((laneDue_sampleRest hchange).trans hd)
  | true =>
    obtain ⟨hagrees, hlevel⟩ := level_of_changeDue_of_laneDue hc hd hchange
    have habandoned := (sampleRest_lane s lane).trans (laneSampled_of_due hchange)
    rw [if_pos hagrees] at habandoned
    have hidle : laneDue (sampleRest s) lane = false := by simp [laneDue, habandoned]
    rw [laneTaken_of_not_due hidle, habandoned]
    exact ⟨hlevel.symm, rfl⟩

/-! ### Records arriving at the capture queue (R124) -/

theorem foldl_arrive_credit (rs : List CaptureRecord) (q : CaptureQueue) :
    (rs.foldl CaptureQueue.arrive q).credit = q.credit := by
  induction rs generalizing q with
  | nil => rfl
  | cons r rs ih =>
    rw [List.foldl_cons, ih, CaptureQueue.arrive]
    split <;> rfl

theorem arrive_of_room {q : CaptureQueue} (r : CaptureRecord) (h : q.records.length < 512) :
    q.arrive r = { q with records := q.records ++ [r] } := if_pos h

theorem arrive_of_full {q : CaptureQueue} (r : CaptureRecord) (h : 512 ≤ q.records.length) :
    q.arrive r = { q with lost := satSucc q.lost } := if_neg (Nat.not_lt.mpr h)

/-- The first records that arrive fill the queue up to its 512 places, and the others are counted. -/
theorem foldl_arrive_eq (rs : List CaptureRecord) {q : CaptureQueue} (h : q.lost ≤ 65535) :
    rs.foldl CaptureQueue.arrive q =
      ⟨q.records ++ rs.take (512 - q.records.length), q.credit,
        min 65535 (q.lost + (rs.length - (512 - q.records.length)))⟩ := by
  induction rs generalizing q with
  | nil => simp [h]
  | cons r rs ih =>
    rw [List.foldl_cons]
    by_cases hroom : q.records.length < 512
    · obtain ⟨n, hn⟩ : ∃ n, 512 - q.records.length = n + 1 := ⟨511 - q.records.length, by omega⟩
      have hn' : 512 - (q.records.length + 1) = n := by omega
      rw [arrive_of_room r hroom, ih (q := { q with records := q.records ++ [r] }) h]
      simp [hn, hn']
    · have hfull : 512 ≤ q.records.length := Nat.not_lt.mp hroom
      have hlost : min 65535 (satSucc q.lost + rs.length) = min 65535 (q.lost + (rs.length + 1)) := by
        rw [satSucc]
        split <;> omega
      rw [arrive_of_full r hfull, ih (satSucc_le h)]
      simp [Nat.sub_eq_zero_of_le hfull, hlost]

/-! ### EDGE_QUALIFIED (R110 to R118, R124, R125) -/

/-- Settles O26: each lane by whether its candidate stands after the samples, the rest by what the group leaves. -/
theorem edgeGroupIsQualified : Obligations.EdgeGroupIsQualified := by
  intro before s hdue
  obtain ⟨t, ht, hgroup⟩ := exec_edgeQualified before hdue
  have hcredit : t.cq.credit = s.cq.credit := by rw [hgroup.cq, foldl_arrive_credit]
  refine ⟨t, ht, fun lane c hc hd => ?_, fun lane hd hchange => ?_, fun lane => ?_, hgroup.flags, ?_⟩
  · rw [hgroup.lanes]
    exact laneTaken_sampleRest_of_due hc hd
  · rw [hgroup.lanes, laneTaken_of_not_due ((laneDue_sampleRest hchange).trans hd), sampleRest_lane,
      laneSampled_of_not_due hchange]
  · have hconfig := laneTaken_config before (sampleRest s) lane
    rw [sampleRest_lane, laneSampled_eq] at hconfig
    rw [hgroup.lanes]
    exact hconfig
  · obtain ⟨x, q, f, rfl⟩ : ∃ x q f, t = { s with capture := x, cq := q, flags := f } := ⟨_, _, _, hgroup.rest⟩
    exact ⟨rfl, rfl, rfl, rfl, rfl, rfl, rfl, rfl, rfl, rfl, rfl, hcredit, rfl⟩

/-- Settles O27: the group's records arrive in their order; a lane's latch record is filled by the lane's own edge. -/
theorem groupIsTakenInLaneOrder : Obligations.GroupIsTakenInLaneOrder := by
  refine ⟨fun before s hdue hlost => ?_, fun s lane => sampleRest_lane s lane⟩
  obtain ⟨t, ht, hgroup⟩ := exec_edgeQualified before hdue
  refine ⟨t, ht, hgroup.seq, hgroup.cq.trans (foldl_arrive_eq _ hlost), fun lane => ?_⟩
  have hlane := (sampleRest_lane s lane).trans (laneSampled_eq s lane)
  have hdelivery := congrArg InLane.delivery hlane
  have hlatch := congrArg InLane.latch hlane
  dsimp only at hdelivery hlatch ⊢
  rw [hgroup.lanes, laneTaken]
  cases hdel : (s.capture.lanes.get lane).delivery with
  | queue => rw [laneLatched_of_queue (hdelivery.trans hdel), hlatch]
  | latch =>
    cases hcap : captured before (sampleRest s) lane with
    | none => rw [laneLatched_of_not_captured hcap, hlatch]
    | some edge =>
      rw [laneLatched_of_latch (hdelivery.trans hdel) hcap, hlatch]
      rfl

section single

variable {before : BitVec 16} {s : State} {lane : Lane}

theorem edgesDue_of_laneDue (hr : s.phase = .running) (hd : laneDue s lane = true) : edgesDue s = true := by
  rw [edgesDue, running_iff.mpr hr, Bool.true_and, List.any_eq_true]
  exact ⟨lane, mem_allLanes lane, hd⟩

/-- A lane that is due alone brings the group's only edge. -/
theorem groupRecords_of_single (h : ∀ other, other ≠ lane → laneDue s other = false) :
    groupRecords before s = numbered s.capture.seq (laneQueued before s lane).toList := by
  rw [groupRecords_eq, filterMap_allLanes_of_single fun other hne =>
    laneQueued_of_not_captured (captured_of_not_due (h other hne))]

end single

/-- Settles O28: the group of one lane, by whether its edge is captured and where the lane delivers it. -/
theorem capturedEdgeIsDelivered : Obligations.CapturedEdgeIsDelivered := by
  intro before s lane c hr hc hd halone hquiet
  dsimp only
  rw [← openAt_iff, ← dirTo_eq]
  obtain ⟨t, ht, hgroup⟩ := exec_edgeQualified before (edgesDue_of_laneDue hr hd)
  have hcap := captured_of_due (before := before) hc hd
  have hlanes := hgroup.lanes lane
  have hseq := hgroup.seq
  have hcq := hgroup.cq
  rw [sampleRest_of_no_change hquiet] at hlanes hseq hcq
  rw [groupRecords_of_single halone] at hseq hcq
  refine ⟨t, ht, fun hshut => ?_, fun hopen hdel => ?_, fun hopen hdel => ?_⟩
  · rw [if_neg hshut] at hcap
    rw [laneQueued_of_not_captured hcap] at hseq hcq
    rw [hlanes, laneTaken, laneLatched_of_not_captured hcap]
    exact ⟨hcq, by simpa [numbered] using hseq, rfl⟩
  · rw [if_pos hopen] at hcap
    rw [laneQueued_of_queue hdel, hcap] at hseq hcq
    rw [hlanes, laneTaken, laneLatched_of_queue hdel]
    have harrive : t.cq = s.cq.arrive
        ⟨lane, dirTo c.level, s.capture.seq, (edgeStamp s c.start).1, (edgeStamp s c.start).2,
          qualityOf before s lane⟩ := by
      simpa [numbered] using hcq
    rw [harrive]
    exact ⟨hseq, rfl, fun hroom => arrive_of_room _ hroom, fun hfull => arrive_of_full _ hfull⟩
  · rw [if_pos hopen] at hcap
    rw [laneQueued_of_latch hdel] at hseq hcq
    rw [hlanes, laneTaken, laneLatched_of_latch hdel hcap]
    exact ⟨by simpa [numbered] using hseq, hcq, rfl⟩

/-! ### INPUT_CONFIG (R107, R108) -/

theorem readEdge_isSome_iff (b : Byte) : (readEdge b).isSome = true ↔ b.toNat ≤ 3 := by
  rw [readEdge]
  split_ifs with h0 h1 h2 h3
  · simp [h0]
  · simp [h1]
  · simp [h2]
  · simp [h3]
  · simp only [Option.isSome_none, Bool.false_eq_true, false_iff]
    bv_omega

theorem readDelivery_isSome_iff (b : Byte) : (readDelivery b).isSome = true ↔ b.toNat ≤ 1 := by
  rw [readDelivery]
  split_ifs with h0 h1
  · simp [h0]
  · simp [h1]
  · simp only [Option.isSome_none, Bool.false_eq_true, false_iff]
    bv_omega

theorem readEdge_code (e : EdgeSetting) : readEdge e.code = some e := by
  cases e <;> rfl

theorem readDelivery_code (d : Delivery) : readDelivery d.code = some d := by
  cases d <;> rfl

section readGate

variable {marker : Byte} {first last : Nat}

/-- The gates that an INPUT_CONFIG may give: none, or one whose start and end are unlike (R107). -/
abbrev GateInRange (marker : Byte) (first last : Nat) : Prop := marker = 0 ∨ (marker = 1 ∧ first ≠ last)

theorem readGate_of_in_range (h : GateInRange marker first last) :
    readGate marker first last = some (if marker = 0 then none else some ⟨first, last⟩) := by
  rcases h with rfl | ⟨rfl, hne⟩
  · rfl
  · exact if_neg hne

theorem readGate_of_out_of_range (h : ¬ GateInRange marker first last) : readGate marker first last = none := by
  rw [GateInRange, not_or, not_and, not_not] at h
  obtain ⟨h0, h1⟩ := h
  by_cases hm : marker = 1
  · subst hm
    exact if_pos (h1 rfl)
  · rw [readGate, readFlag_eq_none h0 hm]

end readGate

section readInputFields

variable {edge deglitch marker s2 s1 s0 e2 e1 e0 delivery : Byte}

/-- The ranges of an INPUT_CONFIG's fields behind the lane byte (R107). -/
abbrev InputConfigInRange (edge marker delivery : Byte) (first last : Nat) : Prop :=
  edge.toNat ≤ 3 ∧ delivery.toNat ≤ 1 ∧ GateInRange marker first last

theorem readInputFields_of_out_of_range
    (h : ¬ InputConfigInRange edge marker delivery (beNat [s2, s1, s0]) (beNat [e2, e1, e0])) :
    readInputFields [edge, deglitch, marker, s2, s1, s0, e2, e1, e0, delivery] = none := by
  rw [InputConfigInRange, ← readEdge_isSome_iff, ← readDelivery_isSome_iff] at h
  unfold readInputFields
  dsimp only
  split
  · rename_i he hg hd
    have hgate : GateInRange marker (beNat [s2, s1, s0]) (beNat [e2, e1, e0]) := by
      by_contra hbad
      rw [readGate_of_out_of_range hbad] at hg
      exact nomatch hg
    exact absurd ⟨by rw [he]; rfl, by rw [hd]; rfl, hgate⟩ h
  · rfl

theorem readInputFields_of_in_range (e : EdgeSetting) (d : Delivery)
    (h : GateInRange marker (beNat [s2, s1, s0]) (beNat [e2, e1, e0])) :
    readInputFields [e.code, deglitch, marker, s2, s1, s0, e2, e1, e0, d.code] =
      some ⟨e, deglitch.toNat, if marker = 0 then none else some ⟨beNat [s2, s1, s0], beNat [e2, e1, e0]⟩, d⟩ := by
  simp only [readInputFields, readEdge_code, readDelivery_code, readGate_of_in_range h]

end readInputFields

section ownInputConfig

variable {laneByte : Byte} {rest : List Byte} {s : State} {lane : Lane}

theorem ownInputConfig_of_bad_lane (h : 16 ≤ laneByte.toNat) :
    ownInputConfig (laneByte :: rest) s = (s, body .badValue []) := by
  simp only [ownInputConfig, readLane_eq_none h]

theorem ownInputConfig_of_bad_fields (h : lane.val = laneByte.toNat) (hf : readInputFields rest = none) :
    ownInputConfig (laneByte :: rest) s = (s, body .badValue (inLaneItems lane (s.capture.lanes.get lane))) := by
  simp only [ownInputConfig, readLane_of_val h, hf]

theorem ownInputConfig_of_fields {f : InputFields} (h : lane.val = laneByte.toNat) (hf : readInputFields rest = some f) :
    ownInputConfig (laneByte :: rest) s =
      (markSampled lane (setInLane lane ((s.capture.lanes.get lane).configure f (sampledLevel lane s)) s),
        body .ok (inLaneItems lane ((s.capture.lanes.get lane).configure f (sampledLevel lane s)))) := by
  simp only [ownInputConfig, readLane_of_val h, hf]

end ownInputConfig

/-- Settles O54: INPUT_CONFIG by its lane byte, then by whether the other fields are in range. -/
theorem inputConfigRestartsTheLane : Obligations.InputConfigRestartsTheLane := by
  intro s r laneByte edge deglitch marker s2 s1 s0 e2 e1 e0 delivery h hbody
  dsimp only
  simp only [← beNat_three]
  refine ⟨fun hbad => ?_, fun lane hlane => ⟨fun hbad => ?_, fun hok ed de hed hde => ?_⟩⟩
  · exact congrArg Host.Outcome.next (serve_of_own_kept h (hbody ▸ ownInputConfig_of_bad_lane hbad))
  · have hfields := readInputFields_of_out_of_range (deglitch := deglitch) hbad
    have hserve := serve_of_own_kept h (hbody ▸ ownInputConfig_of_bad_fields hlane hfields)
    exact congrArg Host.Outcome.next hserve
  · subst hed hde
    obtain ⟨-, -, hgate⟩ := hok
    have hfields := readInputFields_of_in_range (deglitch := deglitch) ed de hgate
    have hserve := serve_of_own (own := ownInputConfig) h (hbody ▸ ownInputConfig_of_fields hlane hfields)
    exact congrArg Host.Outcome.next hserve

/-! ### LATCH_READ (R119) -/

section latchRead

variable {laneByte : Byte} {s : State} {lane : Lane}

theorem ownLatchRead_of_bad_lane (h : 16 ≤ laneByte.toNat) : ownLatchRead [laneByte] s = (s, body .badValue []) := by
  simp only [ownLatchRead, List.head?_cons, Option.bind_some, readLane_eq_none h]

theorem ownLatchRead_of_queue (h : lane.val = laneByte.toNat) (hd : (s.capture.lanes.get lane).delivery = .queue) :
    ownLatchRead [laneByte] s = (s, body .wrongMode (latchItems lane .queue none none)) := by
  simp only [ownLatchRead, List.head?_cons, Option.bind_some, readLane_of_val h, hd]

theorem ownLatchRead_of_empty (h : lane.val = laneByte.toNat) (hd : (s.capture.lanes.get lane).delivery = .latch)
    (hp : (s.capture.lanes.get lane).latch.present = false) :
    ownLatchRead [laneByte] s = (s, body .empty (latchItems lane .latch none (some false))) := by
  simp only [ownLatchRead, List.head?_cons, Option.bind_some, readLane_of_val h, hd, hp, Bool.false_eq_true, if_false]

theorem ownLatchRead_of_present (h : lane.val = laneByte.toNat) (hd : (s.capture.lanes.get lane).delivery = .latch)
    (hp : (s.capture.lanes.get lane).latch.present = true) :
    ownLatchRead [laneByte] s =
      (setInLane lane { s.capture.lanes.get lane with latch := (s.capture.lanes.get lane).latch.emptied } s,
        body .ok
          (latchItems lane .latch (some (s.capture.lanes.get lane).latch)
            (some (s.capture.lanes.get lane).latch.overwritten))) := by
  simp only [ownLatchRead, List.head?_cons, Option.bind_some, readLane_of_val h, hd, hp, if_true]

/-- The items of a reply that gives no edge: the fields of the record are absent (R119, R175). -/
theorem latchItems_of_none (h : lane.val = laneByte.toNat) (d : Delivery) (overwritten : Option Bool) :
    latchItems lane d none overwritten =
      [laneByte, d.code, 0xFF, 0, 0, 0, 0, 0, 0, 0, 0, 0xFF, (overwritten.map flagCode).getD 0xFF] := by
  rw [latchItems, be1, ofNat_val_of_val h]
  rfl

theorem latchItems_of_held (h : lane.val = laneByte.toNat) (d : Delivery) (l : LatchRecord) (overwritten : Bool) :
    latchItems lane d (some l) (some overwritten) =
      [laneByte, d.code, l.edge.code] ++ frameBytes l.frame ++ be4 l.offset ++ [l.quality.code, flagCode overwritten] := by
  rw [latchItems, be1, ofNat_val_of_val h]
  rfl

end latchRead

/-- Settles O55: LATCH_READ by its lane byte, the lane's delivery and the presence of an edge. -/
theorem latchReadEmptiesTheRecord : Obligations.LatchReadEmptiesTheRecord := by
  intro s r laneByte h hbody
  dsimp only
  refine ⟨fun hbad => ?_, fun lane hlane => ⟨fun hd => ?_, fun hd hp => ?_, fun hd hp => ?_⟩⟩
  · exact congrArg Host.Outcome.next (serve_of_own_kept h (hbody ▸ ownLatchRead_of_bad_lane hbad))
  · have hserve := serve_of_own_kept (own := ownLatchRead) h (hbody ▸ ownLatchRead_of_queue (s := takeRequest s) hlane hd)
    rw [latchItems_of_none hlane] at hserve
    exact congrArg Host.Outcome.next hserve
  · have hserve := serve_of_own_kept (own := ownLatchRead) h (hbody ▸ ownLatchRead_of_empty (s := takeRequest s) hlane hd hp)
    rw [latchItems_of_none hlane] at hserve
    exact congrArg Host.Outcome.next hserve
  · have hserve := serve_of_own (own := ownLatchRead) h (hbody ▸ ownLatchRead_of_present (s := takeRequest s) hlane hd hp)
    rw [latchItems_of_held hlane] at hserve
    exact congrArg Host.Outcome.next hserve

end Sys2Proof.Machine
end

section
/-! SUPPORT. Proof of the statement about the capture queue's requests CAPTURE_GRANT and CAPTURE_FLUSH. -/

namespace Sys2Proof.Machine

open Sys2Proof Sys2Proof.Machine Sys2Proof.Claims

/-! ### CAPTURE_GRANT and CAPTURE_FLUSH (R127, R131) -/

theorem ownCaptureGrant_two (n1 n0 : Byte) (s : State) :
    ownCaptureGrant [n1, n0] s =
      (s.setCq { s.cq with credit := min 65535 (s.cq.credit + (n1.toNat * 256 + n0.toNat)) },
        body .ok (be2 (min 65535 (s.cq.credit + (n1.toNat * 256 + n0.toNat))))) := by
  rw [ownCaptureGrant, beNat_two]

/-- A flush takes the turn away from the capture source alone (R128, log 22). -/
theorem Turn.flushed_eq (turn : Turn) : turn.flushed = if turn = .batch then .nothing else turn := by
  cases turn <;> rfl

theorem ownCaptureFlush_eq (b : List Byte) (s : State) :
    ownCaptureFlush b s =
      ((s.setCq { s.cq with records := [] }).setFlags
          { s.flags with sendOwed := if s.flags.sendOwed = .batch then .nothing else s.flags.sendOwed },
        body .ok (be2 s.cq.records.length)) := by
  rw [ownCaptureFlush, Turn.flushed_eq]

/-- Settles O56: each request is carried out by the capture queue on the state with the request taken, whose queue and owed turn
are those of the state before. -/
theorem grantAndFlushTheCaptureQueue : Obligations.GrantAndFlushTheCaptureQueue := by
  refine ⟨fun s r n1 n0 h hbody credit hcredit => ?_, fun s r h => ?_⟩
  · subst hcredit
    have hserve := serve_of_own (own := ownCaptureGrant) h (hbody ▸ ownCaptureGrant_two n1 n0 (takeRequest s))
    exact congrArg Host.Outcome.next hserve
  · have hserve := serve_of_own h (ownCaptureFlush_eq r.body (takeRequest s))
    exact congrArg Host.Outcome.next hserve

end Sys2Proof.Machine
end

section
/-! SUPPORT. Proofs of the statements about the link's receive side: the characters on RXD, the parser and its faults, the
judgement of a frame, and the frame read back. -/

namespace Sys2Proof.Machine

open Sys2Proof Sys2Proof.Machine Sys2Proof.Claims

/-! ### Bit edges and samples on the nearest tick (R136, R137, log 13) -/

theorem Baud.rate_pos (baud : Baud) : 0 < baud.rate := by
  cases baud <;> decide

/-- Half-way times go up or down with the free value, so the nearest tick is one quotient or the other. -/
theorem nearest_eq (a : Nat) {b : Nat} (hb : 0 < b) :
    nearest a b = if Config.tieUp then (2 * a + b) / (2 * b) else (2 * a + b - 1) / (2 * b) := by
  obtain ⟨x, hx⟩ : ∃ x, 2 * a + b = x + 1 := ⟨2 * a + b - 1, by omega⟩
  rw [nearest, hx, Nat.add_sub_cancel]
  by_cases htie : (x + 1) % (2 * b) = 0
  · rw [if_pos htie, Nat.succ_div_of_dvd (Nat.dvd_of_mod_eq_zero htie), Nat.add_sub_cancel]
  · rw [if_neg htie, Nat.succ_div_of_not_dvd (fun h => htie (Nat.mod_eq_zero_of_dvd h)), ite_self]

theorem nearest_mono {a a' b : Nat} (hb : 0 < b) (h : a ≤ a') : nearest a b ≤ nearest a' b := by
  rw [nearest_eq a hb, nearest_eq a' hb]
  split <;> exact Nat.div_le_div_right (by omega)

/-- The nearest tick is at most half a tick away from the time `a / b`. -/
theorem nearest_within_half (a : Nat) {b : Nat} (hb : 0 < b) :
    2 * a ≤ 2 * b * nearest a b + b ∧ 2 * b * nearest a b ≤ 2 * a + b := by
  have hup := Nat.div_add_mod (2 * a + b) (2 * b)
  have hdown := Nat.div_add_mod (2 * a + b - 1) (2 * b)
  have hupMod := Nat.mod_lt (2 * a + b) (y := 2 * b) (by omega)
  have hdownMod := Nat.mod_lt (2 * a + b - 1) (y := 2 * b) (by omega)
  rw [nearest_eq a hb]
  split <;> omega

theorem bitTick_mono (baud : Baud) {m n : Nat} (h : m ≤ n) : bitTick baud m ≤ bitTick baud n :=
  nearest_mono baud.rate_pos (Nat.mul_le_mul_right _ h)

theorem nearestTick_bitTick (baud : Baud) (n : Nat) : NearestTick baud (2 * n) (bitTick baud n) := by
  have hhalf := nearest_within_half (n * Config.tickRate) baud.rate_pos
  rw [← bitTick, Nat.mul_right_comm] at hhalf
  simp only [Config.tickRate] at hhalf
  exact ⟨by omega, by omega⟩

theorem nearestTick_middleTick (baud : Baud) (n : Nat) : NearestTick baud (2 * n + 1) (middleTick baud n) := by
  have hhalf := nearest_within_half ((2 * n + 1) * Config.tickRate) (Nat.mul_pos two_pos baud.rate_pos)
  have hassoc : 2 * (2 * baud.rate) * middleTick baud n = 2 * (2 * middleTick baud n * baud.rate) := by ring
  rw [← middleTick, hassoc] at hhalf
  simp only [Config.tickRate] at hhalf
  exact ⟨by omega, by omega⟩

/-! ### Characters on RXD (R136) -/

theorem bitNow_of_reading {s : State} {start : Tick} (n : Nat) (h : s.link.character = .reading start) :
    bitNow n s = decide ((s.tb.tick - start).toNat = middleTick s.link.baud n) := by
  rw [bitNow, h]
  rfl

theorem receiving_iff {s : State} : receiving s = true ↔ s.phase = .running ∧ s.link.receiver = .armed := by
  simp [receiving, running_iff]

/-- A falling edge may begin a character where none is under way or the last one's stop bit may have ended (log 12). -/
theorem lineFree_of_idle_or_over {s : State}
    (h : s.link.character = .idle ∨
      ∃ start, s.link.character = .stopping start ∧ stopBitOver s.link.baud (s.tb.tick - start).toNat = true) :
    lineFree s = true := by
  rcases h with hc | ⟨start, hc, hover⟩
  · rw [lineFree, hc]
  · rw [lineFree, hc]
    exact hover

theorem lineFree_of_underWay {s : State} {start : Tick}
    (h : s.link.character = .reading start ∨
      (s.link.character = .stopping start ∧ stopBitOver s.link.baud (s.tb.tick - start).toNat = false)) :
    lineFree s = false := by
  rcases h with hc | ⟨hc, hover⟩
  · rw [lineFree, hc]
  · rw [lineFree, hc]
    exact hover

section receiver

variable {s : State}

theorem exec_receiverArmed_of_waiting (hp : s.phase = .running) (hf : s.flags.rxdSampled = false)
    (hv : s.link.receiver = .waitingHigh) :
    exec .receiverArmed s = .next
      { s with link := { s.link with receiver := .armed }, flags := { s.flags with rxdSampled := true } } := by
  simp [exec, execReceiverArmed, running_iff.mpr hp, hf, hv, rxdTaken, State.setFlags, State.setLink]

theorem exec_receiverArmed_of_sampled (hf : s.flags.rxdSampled = true) : exec .receiverArmed s = .next s := by
  simp [exec, execReceiverArmed, hf]

theorem exec_startBit_of_lineFree (hv : receiving s = true) (hf : s.flags.rxdSampled = false) (hl : lineFree s = true) :
    exec .startBit s = .next
      { s with
        link := { s.link with character := .reading s.tb.tick }
        flags := { s.flags with rxdSampled := true } } := by
  simp [exec, execStartBit, hv, hf, hl, rxdTaken, State.setFlags, State.setLink]

theorem exec_startBit_of_sampled (hf : s.flags.rxdSampled = true) : exec .startBit s = .next s := by
  simp [exec, execStartBit, hf]

theorem exec_startBit_of_not_lineFree (hl : lineFree s = false) : exec .startBit s = .next s := by
  simp [exec, execStartBit, hl]

theorem exec_falseStart_of_bitNow (hv : receiving s = true) (hb : bitNow 0 s = true) :
    exec .falseStart s = .next
      { s with link := { s.link with character := .idle }, flags := { s.flags with rxdSampled := true } } := by
  simp [exec, execFalseStart, hv, hb, rxdTaken, State.setFlags, State.setLink]

theorem exec_falseStart_of_not_bitNow (hb : bitNow 0 s = false) : exec .falseStart s = .next s := by
  simp [exec, execFalseStart, hb]

end receiver

/-- Settles O32: each command by its condition at this tick, and the places of the samples by what the nearest tick is. -/
theorem receiverWatchesTheLine : Obligations.ReceiverWatchesTheLine := by
  refine ⟨fun s hp => ⟨exec_receiverArmed_of_waiting hp,
    fun hf => ⟨exec_receiverArmed_of_sampled hf, exec_startBit_of_sampled hf⟩,
    fun hf hv => ⟨fun hc => ?_, fun start hc => ?_⟩,
    fun start hv hc => ⟨fun ht => ?_, fun ht => ?_⟩⟩,
    fun baud n => ⟨nearestTick_middleTick baud n, decide_eq_true_iff⟩⟩
  · exact exec_startBit_of_lineFree (receiving_iff.mpr ⟨hp, hv⟩) hf (lineFree_of_idle_or_over hc)
  · exact exec_startBit_of_not_lineFree (lineFree_of_underWay hc)
  · exact exec_falseStart_of_bitNow (receiving_iff.mpr ⟨hp, hv⟩) ((bitNow_of_reading 0 hc).trans (decide_eq_true ht))
  · exact exec_falseStart_of_not_bitNow ((bitNow_of_reading 0 hc).trans (decide_eq_false ht))

/-! ### A byte taken at this tick (R136, R141) -/

/-- Together with `itemNow_of_byteNow`: only a character in the middle of its stop bit brings a byte. -/
theorem itemNow_false_of_no_byteNow {s : State} (h : ∀ start, ¬ ByteNow start s) : itemNow s = false := by
  rw [Bool.eq_false_iff]
  intro hi
  rw [itemNow, Bool.and_eq_true, receiving_iff] at hi
  obtain ⟨⟨hp, hv⟩, hb⟩ := hi
  cases hc : s.link.character with
  | idle => simp [bitNow, hc] at hb
  | stopping start => simp [bitNow, hc] at hb
  | reading start =>
    rw [bitNow_of_reading 9 hc, decide_eq_true_iff] at hb
    exact h start ⟨hp, hv, hc, hb⟩

theorem settleRestart_of_not_ready {s : State} (h : restartReady s = false) : settleRestart s = s := by
  simp [settleRestart, h]

theorem Link.byteTaken_of_reading {l : Link} {start : Tick} (h : l.character = .reading start) :
    l.byteTaken = { l with character := .stopping start } := by
  rw [Link.byteTaken, h]
  rfl

/-! ### The parser's states (R141) -/

section advance

variable {p : Parser}

theorem Parser.advance_sync (h : p.state = .hunt) : p.advance 0xA5 = some ⟨.len, 0, 0, 0, [], 0xFFFF, 0⟩ := by
  rw [Parser.advance, h]
  rfl

theorem Parser.advance_len {b : Byte} (h : p.state = .len) (hb : b.toNat ≤ 240) :
    p.advance b = some { p with state := .kind, length := b.toNat, crc := crcByte p.crc b } := by
  rw [Parser.advance, h]
  exact if_pos hb

theorem Parser.advance_kind (h : p.state = .kind) (b : Byte) :
    p.advance b = some { p with state := .tag, kind := b, crc := crcByte p.crc b } := by
  rw [Parser.advance, h]

theorem Parser.advance_tag (h : p.state = .tag) (b : Byte) :
    p.advance b = some
      { p with state := if p.length = 0 then .crcHi else .body, tag := b, crc := crcByte p.crc b } := by
  rw [Parser.advance, h]

theorem Parser.advance_body (h : p.state = .body) (b : Byte) :
    p.advance b = some
      { p with
        state := if p.body.length + 1 < p.length then .body else .crcHi
        body := p.body ++ [b], crc := crcByte p.crc b } := by
  rw [Parser.advance, h]

theorem Parser.advance_crcHi (h : p.state = .crcHi) (b : Byte) :
    p.advance b = some { p with state := .crcLo, crcHigh := b } := by
  rw [Parser.advance, h]

/-- A byte that moves the parser on is no frame's last one. -/
theorem Parser.state_ne_crcLo_of_advance {q : Parser} {b : Byte} (h : p.advance b = some q) : p.state ≠ .crcLo := by
  intro hlo
  rw [Parser.advance, hlo] at h
  exact Option.some_ne_none q h.symm

end advance

theorem exec_goodByte_of_advance {s : State} {start : Tick} {b : Byte} {q : Parser} (hn : ByteNow start s)
    (hr : restartReady s = false) (ho : s.flags.oldParser = none) (hq : s.link.parser.advance b = some q) :
    exec (.goodByte b) s = .next
      { s with link := { s.link with parser := q, gap := some s.tb.tick, character := .stopping start } } := by
  have ⟨_, _, hc, _⟩ := hn
  have ha : awaited s = none := awaited_of_hunting (Parser.state_ne_crcLo_of_advance hq) ho
  simp only [exec, execGoodByte, itemNow_of_byteNow hn, ha, settleRestart_of_not_ready hr, hq, Option.isNone_none,
    Bool.and_true, if_true, Link.byteTaken_of_reading hc]
  rfl

/-- Settles O29: each state by its row of the parser's table. -/
theorem goodByteAdvancesParser : Obligations.GoodByteAdvancesParser := by
  intro s start b hn hr ho
  refine ⟨fun hp hb => ?_, fun hp hb => ?_, fun hp => ?_, fun hp => ?_, fun hp => ?_, fun hp => ?_⟩
  · exact exec_goodByte_of_advance hn hr ho (hb ▸ Parser.advance_sync hp)
  · exact exec_goodByte_of_advance hn hr ho (Parser.advance_len hp hb)
  · exact exec_goodByte_of_advance hn hr ho (Parser.advance_kind hp b)
  · exact exec_goodByte_of_advance hn hr ho (Parser.advance_tag hp b)
  · exact exec_goodByte_of_advance hn hr ho (Parser.advance_body hp b)
  · exact exec_goodByte_of_advance hn hr ho (Parser.advance_crcHi hp b)

/-! ### Noise, stop-bit errors, length errors and timeouts (R141 to R144) -/

section faults

variable {s : State} {start : Tick}

theorem exec_noiseByte_of_hunt {b : Byte} (hn : ByteNow start s) (hr : restartReady s = false) (ho : s.flags.oldParser = none)
    (hb : b ≠ 0xA5) (hp : s.link.parser.state = .hunt) :
    exec (.noiseByte b) s = .next
      { s with
        link :=
          { s.link with
            character := .stopping start
            counters := { s.link.counters with framingErrors := satSucc s.link.counters.framingErrors } } } := by
  have ⟨_, _, hc, _⟩ := hn
  have ha : awaited s = none := awaited_of_hunting (hp ▸ nofun) ho
  have hsync : (b != Config.syncByte) = true := bne_iff_ne.mpr hb
  simp only [exec, execNoiseByte, itemNow_of_byteNow hn, ha, settleRestart_of_not_ready hr, hsync, hp, Option.isNone_none,
    Bool.and_true, if_true, Link.byteTaken_of_reading hc]
  rfl

theorem exec_stopBitError_of_byteNow (hn : ByteNow start s) (hr : restartReady s = false) (ho : s.flags.oldParser = none) :
    exec .stopBitError s = .next
      { s with
        link :=
          { s.link with
            parser := Parser.hunt, gap := none, character := .idle, receiver := .waitingHigh
            counters := { s.link.counters with framingErrors := satSucc s.link.counters.framingErrors } }
        flags := { s.flags with rxdSampled := true } } := by
  simp only [exec, execStopBitError, itemNow_of_byteNow hn, settleRestart_of_not_ready hr, if_true, ← ho]
  rfl

theorem exec_lengthError_of_len {b : Byte} (hn : ByteNow start s) (hr : restartReady s = false) (hb : 240 < b.toNat)
    (hp : s.link.parser.state = .len) :
    exec (.lengthError b) s = .next
      { s with
        link :=
          { s.link with
            character := .stopping start, parser := Parser.hunt, gap := none
            counters := { s.link.counters with lengthErrors := satSucc s.link.counters.lengthErrors } } } := by
  have ⟨_, _, hc, _⟩ := hn
  have hlong : decide (Config.maxBody < b.toNat) = true := decide_eq_true hb
  simp only [exec, execLengthError, itemNow_of_byteNow hn, hlong, hr, hp, decide_true, Bool.not_false, Bool.and_self, if_true,
    Link.byteTaken_of_reading hc]
  rfl

theorem RxChar.isReading_of_not_reading {c : RxChar} (h : ∀ start, c ≠ .reading start) : c.isReading = false := by
  cases c with
  | idle | stopping => rfl
  | reading start => exact absurd rfl (h start)

theorem exec_frameTimeout_of_gap {g : Tick} (hp : s.phase = .running) (hc : ∀ start, s.link.character ≠ .reading start)
    (hs : s.link.parser.state ≠ .hunt) (hg : s.link.gap = some g)
    (ht : 64 * 100000000 < (s.tb.tick - g).toNat * s.link.baud.rate) :
    exec .frameTimeout s = .next
      { s with
        link :=
          { s.link with
            parser := Parser.hunt, gap := none
            counters := { s.link.counters with timeouts := satSucc s.link.counters.timeouts } } } := by
  have hlate : decide (Config.gapBits * Config.tickRate < elapsed s.tb g * s.link.baud.rate) = true := decide_eq_true ht
  have hdue : timeoutDue s = true := by
    simp only [timeoutDue, running_iff.mpr hp, RxChar.isReading_of_not_reading hc, hs, hg, hlate, decide_true, ne_eq,
      not_false_eq_true, Bool.not_false, Bool.and_self]
  simp only [exec, execFrameTimeout, hdue, if_true]
  rfl

/-- A byte that no character brings at this tick is no event (log 2). -/
theorem exec_byte_of_not_itemNow (b : Byte) (h : itemNow s = false) :
    exec (.goodByte b) s = .next s ∧ exec (.noiseByte b) s = .next s ∧ exec .stopBitError s = .next s ∧
      exec (.lengthError b) s = .next s ∧ exec (.receiveFrame b) s = .next s := by
  simp [exec, execGoodByte, execNoiseByte, execStopBitError, execLengthError, execReceiveFrame, h]

theorem exec_noiseByte_of_sync : exec (.noiseByte 0xA5) s = .next s := by
  have hsync : ((0xA5 : Byte) != Config.syncByte) = false := rfl
  simp only [exec, execNoiseByte, hsync, Bool.and_false, Bool.false_eq_true, if_false]

theorem exec_lengthError_of_le {b : Byte} (hb : b.toNat ≤ 240) : exec (.lengthError b) s = .next s := by
  have hshort : decide (Config.maxBody < b.toNat) = false := decide_eq_false (Nat.not_lt.mpr hb)
  simp [exec, execLengthError, hshort]

end faults

/-- Settles O30: each fault by its own condition, and the no-events by the condition that fails. -/
theorem linkFaultsAreCounted : Obligations.LinkFaultsAreCounted := by
  refine ⟨fun s start hn hr ho => ⟨fun b hb hp => ?_, ?_, fun b hb hp => ?_⟩,
    fun s g hp hc hs hg ht => ?_, fun s b h => ?_,
    fun s b => ⟨exec_noiseByte_of_sync, exec_lengthError_of_le⟩⟩
  · exact exec_noiseByte_of_hunt hn hr ho hb hp
  · exact exec_stopBitError_of_byteNow hn hr ho
  · exact exec_lengthError_of_len hn hr hb hp
  · exact exec_frameTimeout_of_gap hp hc hs hg ht
  · exact exec_byte_of_not_itemNow b (itemNow_false_of_no_byteNow h)

/-! ### A frame judged and taken in (R145, R151, R152) -/

section frame

variable {s : State} {start : Tick}

theorem awaited_of_oldParser {p : Parser} (hp : s.link.parser.state ≠ .crcLo) (ho : s.flags.oldParser = some p) :
    awaited s = some p := by
  simp [awaited, hp, ho]

/-- The end of a frame on a tick that is not the restart's leaves the parser in HUNT and the character in its stop bit. -/
theorem settleRestart_frameEnded_of_not_ready (counters : Counters) (h : restartReady s = false)
    (hc : s.link.character = .reading start) :
    settleRestart (frameEnded counters s) =
      { s with
        link := { s.link with parser := Parser.hunt, gap := none, character := .stopping start, counters := counters }
        flags := { s.flags with oldParser := none } } := by
  have hready : restartReady (frameEnded counters s) = false := h
  rw [settleRestart_of_not_ready hready, frameEnded, Link.byteTaken_of_reading hc]
  rfl

end frame

section intake

variable {s : State} {r : Request}

theorem intake_of_restarting (h : s.engine.state = .restarting) : intake r s = s := by
  rw [intake, h]

theorem intake_of_place (h : s.engine.state = .running) (hn : s.engine.requests.length < 8) :
    intake r s = { s with engine := { s.engine with requests := s.engine.requests ++ [r] } } := by
  rw [intake, h]
  exact if_pos hn

theorem intake_of_refusal (h : s.engine.state = .running) (hn : 8 ≤ s.engine.requests.length) (hr : s.engine.refusal = none) :
    intake r s = { s with engine := { s.engine with refusal := some (busyReply r) } } := by
  have hfull : ¬ s.engine.requests.length < Config.requestPlaces := Nat.not_lt.mpr hn
  simp only [intake, h, if_neg hfull, hr]
  rfl

theorem intake_of_full (h : s.engine.state = .running) (hn : 8 ≤ s.engine.requests.length) (hr : s.engine.refusal ≠ none) :
    intake r s = { s with link := { s.link with counters := s.link.counters.addBusyDropped } } := by
  have hfull : ¬ s.engine.requests.length < Config.requestPlaces := Nat.not_lt.mpr hn
  obtain ⟨reply, hreply⟩ := Option.ne_none_iff_exists'.mp hr
  simp only [intake, h, if_neg hfull, hreply]
  rfl

/-- The BUSY reply repeats a kind that is no request kind (R152, R155). -/
theorem busyReply_eq (r : Request) :
    busyReply r =
      if (ReqKind.ofCode r.kind).isSome then ⟨r.kind + 0x40, r.tag, [0x01], false⟩
      else ⟨0x7F, r.tag, [0x01, r.kind], false⟩ := by
  rw [busyReply]
  cases ReqKind.ofCode r.kind <;> rfl

end intake

/-- Settles O31: the CRC decides which counter counts, and a good frame goes where the engine has room for it. -/
theorem frameIsJudgedAndTakenIn : Obligations.FrameIsJudgedAndTakenIn := by
  intro s start low p hn hr hp
  have ⟨_, _, hc, _⟩ := hn
  have ha : awaited s = some p := by
    rcases hp with ⟨hlo, rfl⟩ | ⟨hlo, ho⟩
    · exact awaited_of_crcLo hlo
    · exact awaited_of_oldParser hlo ho
  refine ⟨fun hcrc => ?_, fun hcrc => ?_⟩
  · rw [exec_receiveFrame_of_unequal (itemNow_of_byteNow hn) ha hcrc, settleRestart_frameEnded_of_not_ready _ hr hc]
    rfl
  · rw [exec_receiveFrame_of_equal (itemNow_of_byteNow hn) ha hcrc, settleRestart_frameEnded_of_not_ready _ hr hc]
    refine ⟨fun he => ?_, fun he hl => ?_, fun he hl hf => ?_, fun he hl hf => ?_⟩
    · exact congrArg Host.Outcome.next (intake_of_restarting he)
    · exact congrArg Host.Outcome.next (intake_of_place he hl)
    · rw [← busyReply_eq ⟨p.kind, p.tag, p.body, p.crc⟩]
      exact congrArg Host.Outcome.next (intake_of_refusal he hl hf)
    · exact congrArg Host.Outcome.next (intake_of_full he hl hf)

/-! ### The frame read back (R139 to R141) -/

/-- The parser after bytes that each move it on. -/
def Parser.reads (p : Parser) (bytes : List Byte) : Option Parser :=
  bytes.foldl (fun q x => q.bind fun q => q.advance x) (some p)

section reads

variable {p q : Parser} {x : Byte} {xs : List Byte}

@[simp] theorem Parser.reads_nil : p.reads [] = some p := rfl

theorem Parser.reads_cons (h : p.advance x = some q) : p.reads (x :: xs) = q.reads xs := by
  rw [Parser.reads, List.foldl_cons, Option.bind_some, h]
  rfl

theorem Parser.reads_append {ys : List Byte} (h : p.reads xs = some q) : p.reads (xs ++ ys) = q.reads ys := by
  rw [Parser.reads] at h
  rw [Parser.reads, List.foldl_append, h]
  rfl

/-- The body bytes that are missing fill the body and go into the CRC, and the parser then awaits the CRC high byte. -/
theorem Parser.reads_body (hs : p.state = .body) (hx : xs ≠ []) (hl : p.body.length + xs.length = p.length) :
    p.reads xs = some { p with state := .crcHi, body := p.body ++ xs, crc := xs.foldl crcByte p.crc } := by
  induction xs generalizing p with
  | nil => exact absurd rfl hx
  | cons x xs ih =>
    rw [Parser.reads_cons (Parser.advance_body hs x)]
    rw [List.length_cons] at hl
    cases xs with
    | nil => rw [Parser.reads_nil, if_neg (by rw [List.length_nil] at hl; omega), List.foldl_cons, List.foldl_nil]
    | cons y ys =>
      rw [List.length_cons] at hl
      rw [if_pos (by omega), ih rfl (List.cons_ne_nil y ys) (by simp; omega)]
      simp

end reads

/-- What the CRC of a frame covers: LEN, KIND, TAG and BODY (R140). -/
def coveredBytes (kind tag : Byte) (b : List Byte) : List Byte := BitVec.ofNat 8 b.length :: kind :: tag :: b

theorem frameOf_eq (kind tag : Byte) (b : List Byte) :
    frameOf kind tag b = 0xA5 :: (coveredBytes kind tag b ++ be2 (crcOf (coveredBytes kind tag b)).toNat) := rfl

theorem crcOf_append (xs ys : List Byte) : crcOf (xs ++ ys) = ys.foldl crcByte (crcOf xs) := List.foldl_append

/-- SYNC, LEN, KIND and TAG take the parser from HUNT to the body, or past it where LEN is 0 (R141). -/
theorem Parser.reads_header (kind tag : Byte) (rest : List Byte) {n : Nat} (hn : n ≤ 240) :
    Parser.hunt.reads (0xA5 :: BitVec.ofNat 8 n :: kind :: tag :: rest) =
      Parser.reads ⟨if n = 0 then .crcHi else .body, n, kind, tag, [], crcOf [BitVec.ofNat 8 n, kind, tag], 0⟩ rest := by
  have hlen : (BitVec.ofNat 8 n).toNat = n := by
    rw [BitVec.toNat_ofNat]
    omega
  rw [Parser.reads_cons (Parser.advance_sync rfl), Parser.reads_cons (Parser.advance_len rfl (hlen.trans_le hn)),
    Parser.reads_cons (Parser.advance_kind rfl kind), Parser.reads_cons (Parser.advance_tag rfl tag), hlen]
  rfl

/-- A frame up to its CRC takes the parser from HUNT to the CRC high byte, with the frame's own fields and CRC. -/
theorem Parser.reads_covered (kind tag : Byte) {b : List Byte} (hb : b.length ≤ 240) :
    Parser.hunt.reads (0xA5 :: coveredBytes kind tag b) =
      some ⟨.crcHi, b.length, kind, tag, b, crcOf (coveredBytes kind tag b), 0⟩ := by
  rw [coveredBytes, Parser.reads_header kind tag b hb]
  cases b with
  | nil => rfl
  | cons x xs =>
    have hne : (x :: xs).length ≠ 0 := Nat.succ_ne_zero xs.length
    rw [if_neg hne, Parser.reads_body rfl (List.cons_ne_nil x xs) (Nat.zero_add _), ← crcOf_append]
    rfl

/-- The two CRC bytes of a frame, put together again (R139, R140). -/
theorem crc_of_bytes (c : BitVec 16) : (BitVec.ofNat 8 (c.toNat / 256) ++ BitVec.ofNat 8 c.toNat : BitVec 16) = c := by
  apply BitVec.eq_of_toNat_eq
  have hc := c.isLt
  rw [toNat_append_byte, BitVec.toNat_ofNat, BitVec.toNat_ofNat]
  omega

/-- With the CRC high byte too, whatever it is, the parser awaits the low one. -/
theorem Parser.reads_covered_append (kind tag high : Byte) {b : List Byte} (hb : b.length ≤ 240) :
    Parser.hunt.reads ((0xA5 :: coveredBytes kind tag b) ++ [high]) =
      some ⟨.crcLo, b.length, kind, tag, b, crcOf (coveredBytes kind tag b), high⟩ := by
  rw [Parser.reads_append (Parser.reads_covered kind tag hb), Parser.reads_cons (Parser.advance_crcHi rfl high),
    Parser.reads_nil]

/-- Settles O33: the frame but for its last byte takes the parser to CRC_LO, and the two CRC bytes give the CRC back. -/
theorem sentFrameIsReadBack : Obligations.SentFrameIsReadBack := by
  intro kind tag b hb
  obtain ⟨crc, hcrc⟩ : ∃ crc, crc = crcOf (coveredBytes kind tag b) := ⟨_, rfl⟩
  have hread := Parser.reads_covered_append kind tag (BitVec.ofNat 8 (crc.toNat / 256)) hb
  rw [← hcrc] at hread
  refine ⟨(0xA5 :: coveredBytes kind tag b) ++ [BitVec.ofNat 8 (crc.toNat / 256)], BitVec.ofNat 8 crc.toNat, _, ?_, hread,
    rfl, rfl, rfl, rfl, rfl, crc_of_bytes crc⟩
  rw [frameOf_eq, ← hcrc, be2, be1, List.append_assoc]
  rfl

end Sys2Proof.Machine
end

section
/-! SUPPORT. Proof of the statement about the link's transmit side: TXD bit by bit, and the end of a frame. -/

namespace Sys2Proof.Machine

open Sys2Proof Sys2Proof.Machine Sys2Proof.Claims

/-! ### TXD (R137) -/

section bitsDone

variable {baud : Baud} {e n total : Nat}

theorem bitsDone_of_le (h : bitTick baud n ≤ e) : bitsDone baud e n = n := by
  cases n with
  | zero => rfl
  | succ n => exact if_pos h

/-- Bit times that end later than `e` do not count: each of them ends no earlier than the first of them. -/
theorem bitsDone_of_lt (hn : n ≤ total) (h : e < bitTick baud (n + 1)) : bitsDone baud e total = bitsDone baud e n := by
  induction total, hn using Nat.le_induction with
  | base => rfl
  | succ m hm ih =>
    have hlater : e < bitTick baud (m + 1) := h.trans_le (bitTick_mono baud (by omega))
    rw [bitsDone, if_neg (Nat.not_le.mpr hlater), ih]

end bitsDone

theorem pinOf_charBit (b : Byte) {j : Nat} (hj : j < 10) :
    pinOf (charBit b j) = if j = 0 then .low else if j = 9 then .high else if b.getLsbD (j - 1) then .high else .low := by
  rw [charBit]
  by_cases hstart : j = 0
  · rw [if_pos hstart, if_pos hstart, pinOf]
  rw [if_neg hstart, if_neg hstart]
  by_cases hstop : j = 9
  · rw [if_pos hstop, if_neg (by omega), pinOf]
  rw [if_neg hstop, if_pos (by omega)]
  cases b.getLsbD (j - 1) <;> rfl

section txd

variable {s : State} {frame : List Byte} {start : Tick} {restarts : Bool}

theorem txdPin_of_idle (hp : s.phase = .running) (h : s.link.transmitter = .idle) : txdPin s = .high := by
  simp only [txdPin, hp, h]

/-- While bit time `j` of byte `i` runs, TXD carries that bit of that byte. -/
theorem txdPin_of_bit {i j : Nat} {b : Byte} (hp : s.phase = .running) (h : s.link.transmitter = .sending frame start restarts)
    (hb : frame[i]? = some b) (hj : j < 10)
    (hn : bitsDone s.link.baud (s.tb.tick - start).toNat (10 * frame.length) = 10 * i + j) :
    txdPin s = pinOf (charBit b j) := by
  have hbyte : (10 * i + j) / 10 = i := by omega
  have hbit : (10 * i + j) % 10 = j := by omega
  simp only [txdPin, hp, h, elapsed, hn, hbyte, hbit, hb]

theorem txdPin_of_ended (hp : s.phase = .running) (h : s.link.transmitter = .sending frame start restarts)
    (hn : bitsDone s.link.baud (s.tb.tick - start).toNat (10 * frame.length) = 10 * frame.length) : txdPin s = .high := by
  have hover : frame[10 * frame.length / 10]? = none := by
    rw [List.getElem?_eq_none_iff]
    omega
  simp only [txdPin, hp, h, elapsed, hn, hover]

/-! ### The end of a frame (R148, R163) -/

theorem exec_frameSent_of_ended (hp : s.phase = .running) (h : s.link.transmitter = .sending frame start restarts)
    (he : bitTick s.link.baud (10 * frame.length) ≤ (s.tb.tick - start).toNat) :
    exec .frameSent s = .next
      { s with
        link := { s.link with transmitter := .idle }
        flags := { s.flags with restartDue := s.flags.restartDue || restarts, sendOwed := turnOf s } } := by
  have hended : sendEnded s = true := by
    simp only [sendEnded, h]
    exact decide_eq_true he
  simp only [exec, execFrameSent, h, running_iff.mpr hp, hended, Bool.and_self, if_true]
  rfl

theorem restartReady_of_due (hp : s.phase = .running) (hd : s.flags.restartDue = true) : restartReady s = true := by
  simp [restartReady, running_iff, hp, hd]

end txd

/-- Settles O35: the number of bit times done names the byte and the bit on TXD, and at the end of the frame there is none. -/
theorem frameIsSentBitByBit : Obligations.FrameIsSentBitByBit := by
  refine ⟨fun s => txdPin_of_idle, fun s frame start restarts i j b hp h hb hj hlo hhi => ?_, nearestTick_bitTick,
    fun s frame start restarts hp h he => ⟨_, exec_frameSent_of_ended hp h he, rfl, ?_, fun hrestarts => ?_⟩⟩
  · have hi : i < frame.length := (List.getElem?_eq_some_iff.mp hb).1
    rw [txdPin_of_bit hp h hb hj ((bitsDone_of_lt (by omega) hhi).trans (bitsDone_of_le hlo)), pinOf_charBit b hj]
  · exact txdPin_of_ended hp h (bitsDone_of_le he)
  · exact restartReady_of_due hp (by simp [hrestarts])

end Sys2Proof.Machine
end

section
/-! SUPPORT. Proofs of the statements about the dispatch of a request: its conditions, the generic refusals, the retries and the
reply cache. -/

namespace Sys2Proof.Machine

open Sys2Proof Sys2Proof.Machine Sys2Proof.Claims

/-! ### The conditions of a dispatch (R153) -/

theorem ofCode_eq_some_iff {b : Byte} {k : ReqKind} : ReqKind.ofCode b = some k ↔ b = k.code := by
  constructor
  · intro h
    exact (beq_iff_eq.mp (List.find?_some h :)).symm
  · rintro rfl
    cases k <;> rfl

/-- A request would reach the block that owns a kind: it is of the kind, has the kind's length and is no retry (R154). -/
abbrev ReachesOwner (s : State) (r : Request) (k : ReqKind) : Prop :=
  r.kind = k.code ∧ r.body.length = k.bodyLength ∧ cachedReply r s.engine = none ∧ absorbed r s.engine = false

theorem reachesBlock_iff {s : State} {k : ReqKind} {r : Request} :
    reachesBlock s k r = true ↔
      r.body.length = k.bodyLength ∧ cachedReply r s.engine = none ∧ absorbed r s.engine = false := by
  simp [reachesBlock, and_comm, and_assoc]

theorem heldThisTick_eq_false_iff {s : State} {r : Request} :
    heldThisTick s r = false ↔ ∀ k, ReachesOwner s r k → heldByBlock s k = false := by
  rw [← Bool.not_eq_true, heldThisTick, Option.any_eq_true]
  simp [ofCode_eq_some_iff, reachesBlock_iff]

/-- Three kinds may be held to a later moment of the tick, each on its own condition (log 15, log 27). -/
theorem forall_heldByBlock_iff {s : State} {P : ReqKind → Prop} :
    (∀ k, P k → heldByBlock s k = false) ↔
      (P .laneStatus → lanesQuiet s = true) ∧
        (P .frameRenumber → ¬ (s.flags.stamped = true ∧ endsNow s = true)) ∧
        (P .trackConfig → ¬ (s.flags.settled = true ∧ s.flags.edgeNow = true)) := by
  have hlane : heldByBlock s .laneStatus = false ↔ lanesQuiet s = true := by simp [heldByBlock]
  have hrenumber : heldByBlock s .frameRenumber = false ↔ ¬ (s.flags.stamped = true ∧ endsNow s = true) := by
    simp [heldByBlock]
  have hconfig : heldByBlock s .trackConfig = false ↔ ¬ (s.flags.settled = true ∧ s.flags.edgeNow = true) := by
    simp [heldByBlock]
  rw [← hlane, ← hrenumber, ← hconfig]
  refine ⟨fun h => ⟨h _, h _, h _⟩, fun ⟨h1, h2, h3⟩ k hk => ?_⟩
  cases k with
  | laneStatus => exact h1 hk
  | frameRenumber => exact h2 hk
  | trackConfig => exact h3 hk
  | _ => rfl

theorem dispatchable_iff {s : State} {r : Request} :
    dispatchable s = some r ↔ openRequest s = some r ∧ heldThisTick s r = false := by
  simp [dispatchable, Option.filter_eq_some_iff]

/-- Settles O37: the five conditions are those of `openRequest`, the others those on which a kind is held. -/
theorem dispatchConditions : Obligations.DispatchConditions := by
  intro s r
  dsimp only
  rw [dispatchable_iff, openRequest_iff, heldThisTick_eq_false_iff, forall_heldByBlock_iff (P := ReachesOwner s r)]
  simp only [and_assoc]
  rfl

/-! ### The generic refusals (R155) -/

/-- Each request kind has a command, and it serves that kind (R153). -/
theorem exec_command (k : ReqKind) : ∃ own, ∀ s, exec k.command s = .next (serveWith k own s) := by
  cases k <;> exact ⟨_, fun _ => rfl⟩

theorem retryOutcome_of_cached {s : State} {r : Request} {reply : Reply} (h : cachedReply r s.engine = some reply) :
    retryOutcome r s = some (placeReply reply s) := by
  rw [retryOutcome, h]

theorem retryOutcome_of_absorbed {s : State} {r : Request} (hc : cachedReply r s.engine = none)
    (ha : absorbed r s.engine = true) : retryOutcome r s = some s := by
  simp only [retryOutcome, hc, ha, if_true]

theorem retryOutcome_of_new {s : State} {r : Request} (hc : cachedReply r s.engine = none)
    (ha : absorbed r s.engine = false) : retryOutcome r s = none := by
  simp [retryOutcome, hc, ha]

/-- A request that is no retry stays none where the oldest request leaves the queue. -/
theorem retryOutcome_takeRequest_of_new {s : State} {r : Request} (hc : cachedReply r s.engine = none)
    (ha : absorbed r s.engine = false) : retryOutcome r (takeRequest s) = none :=
  retryOutcome_of_new (s := takeRequest s) hc ha

theorem serveWith_of_bad_length {k : ReqKind} {own : Request → State → State} {s : State} {r : Request}
    (hd : dispatchable s = some r) (hc : cachedReply r s.engine = none) (ha : absorbed r s.engine = false)
    (hk : r.kind = k.code) (hl : r.body.length ≠ k.bodyLength) : serveWith k own s = replied r [0x03] s := by
  simp only [serveWith, hd, if_pos hk, retryOutcome_takeRequest_of_new hc ha, if_neg hl]
  rfl

theorem exec_unknownKind_of_new {s : State} {r : Request} (hd : dispatchable s = some r)
    (hc : cachedReply r s.engine = none) (ha : absorbed r s.engine = false) (hk : ReqKind.ofCode r.kind = none) :
    exec .unknownKind s = .next (answerWith 0x7F r [0x02, r.kind] (takeRequest s)) := by
  simp only [exec, execUnknownKind, hd, hk, Option.isNone_none, if_true, retryOutcome_takeRequest_of_new hc ha]
  rfl

/-- Settles O38: a dispatched request that is no retry meets the check of its kind, and then that of its length. -/
theorem genericRefusals : Obligations.GenericRefusals := by
  refine ⟨fun s r hd hc ha hk => exec_unknownKind_of_new hd hc ha hk, fun s r k hd hc ha hk hl => ?_⟩
  obtain ⟨own, hown⟩ := exec_command k
  rw [hown, serveWith_of_bad_length hd hc ha hk hl]

/-! ### Retries (R154, R157, R161) -/

theorem matches_iff {r : Request} {k : RetryKey} : Matches r k ↔ k = r.key := by
  obtain ⟨tag, kind, length, crc⟩ := k
  simp [Request.key]

theorem cachedReply_eq_none {r : Request} {e : Engine} (h : r.tag = 0 ∨ ∀ c ∈ e.cache, ¬ Matches r c.key) :
    cachedReply r e = none := by
  rw [cachedReply]
  rcases h with h | h
  · rw [if_pos h]
  · have hfind : (e.cache.find? fun c => decide (c.key = r.key)) = none := by
      simpa [matches_iff] using h
    rw [hfind, Option.map_none, ite_self]

/-- Of the entries of a cache whose tags are distinct, a request finds the one that it matches. -/
theorem cachedReply_of_match {r : Request} {e : Engine} {entry : CacheEntry} (ht : r.tag ≠ 0)
    (hdistinct : CacheTagsDistinct e.cache) (hmem : entry ∈ e.cache) (hm : Matches r entry.key) :
    cachedReply r e = some entry.reply := by
  have htags : (e.cache.map fun c => c.key.tag).Nodup := List.pairwise_map.mpr hdistinct.1
  have hkey := matches_iff.mp hm
  obtain ⟨found, hfind⟩ : ∃ found, (e.cache.find? fun c => decide (c.key = r.key)) = some found :=
    Option.isSome_iff_exists.mp (List.find?_isSome.mpr ⟨entry, hmem, decide_eq_true hkey⟩)
  have hfound : found.key = r.key := of_decide_eq_true (List.find?_some hfind :)
  have hsame : found = entry := List.inj_on_of_nodup_map htags (List.mem_of_find?_eq_some hfind) hmem (by rw [hfound, hkey])
  rw [cachedReply, if_neg ht, hfind, hsame]
  rfl

theorem absorbed_iff {r : Request} {e : Engine} : absorbed r e = true ↔ r.tag ≠ 0 ∧ ∃ w ∈ e.waits, Matches r w.key := by
  simp [absorbed, matches_iff]

theorem absorbed_eq_false {r : Request} {e : Engine} (h : r.tag = 0 ∨ ∀ w ∈ e.waits, ¬ Matches r w.key) :
    absorbed r e = false := by
  rw [← Bool.not_eq_true, absorbed_iff]
  rintro ⟨ht, w, hw, hm⟩
  exact h.elim ht fun hno => hno w hw hm

/-- A retry has its outcome whatever its kind: the check for a retry comes before that of the kind (R154). -/
theorem exec_command_of_retry {s t : State} {r : Request} (hd : dispatchable s = some r)
    (ho : retryOutcome r (takeRequest s) = some t) : exec r.command s = .next t := by
  rw [Request.command]
  cases hk : ReqKind.ofCode r.kind with
  | some k =>
    obtain ⟨own, hown⟩ := exec_command k
    simp only [hown, serveWith, hd, if_pos (ofCode_eq_some_iff.mp hk), ho]
  | none => simp only [exec, execUnknownKind, hd, hk, Option.isNone_none, if_true, ho]

/-! ### The reply cache (R156) -/

section remember

variable {key : RetryKey} {reply : Reply} {cache : List CacheEntry}

theorem remember_of_tag_zero (h : key.tag = 0) : remember key reply cache = cache := if_pos h

/-- Where other entries leave room, the new one comes behind them (R156). -/
theorem remember_of_room (ht : key.tag ≠ 0) (h : (cache.filter fun c => decide (c.key.tag ≠ key.tag)).length < 8) :
    remember key reply cache =
      (cache.filter fun c => decide (c.key.tag ≠ key.tag)) ++ [⟨key, { reply with restarts := false }⟩] := by
  have hplaces : (cache.filter fun c => decide (c.key.tag ≠ key.tag)).length < Config.cachePlaces := h
  simp only [remember, if_neg ht, if_pos hplaces]

/-- Every entry is another one, where no entry has the tag. -/
theorem filter_new_tag (h : ∀ c ∈ cache, c.key.tag ≠ key.tag) :
    (cache.filter fun c => decide (c.key.tag ≠ key.tag)) = cache :=
  List.filter_eq_self.mpr fun c hc => decide_eq_true (h c hc)

theorem remember_of_full (ht : key.tag ≠ 0) (hnew : ∀ c ∈ cache, c.key.tag ≠ key.tag) (h : cache.length = 8) :
    remember key reply cache = cache.tail ++ [⟨key, { reply with restarts := false }⟩] := by
  have hplaces : ¬ cache.length < Config.cachePlaces := Nat.not_lt.mpr (Nat.le_of_eq h.symm)
  simp only [remember, if_neg ht, filter_new_tag hnew, if_neg hplaces]

/-- The other entries, where one entry has the tag. -/
theorem filter_other_tags {front back : List CacheEntry} {old : CacheEntry} (ho : old.key.tag = key.tag)
    (hothers : ∀ c ∈ front ++ back, c.key.tag ≠ key.tag) :
    ((front ++ old :: back).filter fun c => decide (c.key.tag ≠ key.tag)) = front ++ back := by
  have hkept := filter_new_tag hothers
  rw [List.filter_append] at hkept ⊢
  rw [List.filter_cons_of_neg (by simp [ho]), hkept]

end remember

/-- Settles O39: a retry by the entry or the wait that it matches, and the cache by what the new entry's tag finds in it. -/
theorem retriesAreNotCarriedOut : Obligations.RetriesAreNotCarriedOut := by
  refine ⟨fun s r hd ht => ⟨fun htags e he hm => ?_, fun hnone w hw hm => ?_⟩, fun r e h => ⟨?_, ?_⟩,
    fun key reply cache => ⟨remember_of_tag_zero, fun ht hlen => ⟨fun front back old hcache hold hothers => ?_,
      fun hnew => ⟨fun hroom => ?_, fun hfull => remember_of_full ht hnew hfull⟩⟩⟩⟩
  · exact exec_command_of_retry hd (retryOutcome_of_cached (s := takeRequest s) (cachedReply_of_match ht htags he hm))
  · exact exec_command_of_retry hd (retryOutcome_of_absorbed (s := takeRequest s) (cachedReply_eq_none (.inr hnone))
      (absorbed_iff.mpr ⟨ht, w, hw, hm⟩))
  · exact cachedReply_eq_none (h.imp_right And.left)
  · exact absorbed_eq_false (h.imp_right And.right)
  · have hfilter := filter_other_tags hold hothers
    rw [← hcache] at hfilter
    have hroom : (front ++ back).length < 8 := by
      rw [hcache, List.length_append, List.length_cons] at hlen
      rw [List.length_append]
      omega
    rw [remember_of_room ht (hfilter ▸ hroom), hfilter]
  · rw [remember_of_room ht ((filter_new_tag hnew).symm ▸ hroom), filter_new_tag hnew]

end Sys2Proof.Machine
end

section
/-! SUPPORT. Proofs of the statements about SYNC_WAIT, the parked waits at a boundary, RESTART and the replies owed. -/

namespace Sys2Proof.Machine

open Sys2Proof Sys2Proof.Machine Sys2Proof.Claims

/-! ### The wait list (R158) -/

/-- A wait list in ascending order of distance from a frame (R158). -/
abbrev OrderedFrom (current : FrameNo) (ws : List Wait) : Prop :=
  ws.Pairwise fun v w => distance v.target current ≤ distance w.target current

/-- A wait is placed behind waits that are no further than it; in an ordered list those behind it are further (R158). -/
theorem insertWait_split (current : FrameNo) (w : Wait) (ws : List Wait) :
    ∃ front back, ws = front ++ back ∧ insertWait current w ws = front ++ w :: back ∧
      (∀ v ∈ front, distance v.target current ≤ distance w.target current) ∧
      (OrderedFrom current ws → ∀ v ∈ back, distance w.target current < distance v.target current) := by
  induction ws with
  | nil => exact ⟨[], [], rfl, rfl, nofun, fun _ => nofun⟩
  | cons v vs ih =>
    rw [insertWait]
    by_cases h : distance w.target current < distance v.target current
    · rw [if_pos h]
      refine ⟨[], v :: vs, rfl, rfl, nofun, fun hsorted u hu => ?_⟩
      rcases List.mem_cons.mp hu with rfl | hu
      · exact h
      · exact Nat.lt_of_lt_of_le h (List.rel_of_pairwise_cons hsorted hu)
    · rw [if_neg h]
      obtain ⟨front, back, hws, hinsert, hfront, hback⟩ := ih
      refine ⟨v :: front, back, by rw [hws, List.cons_append], by rw [hinsert, List.cons_append], fun u hu => ?_,
        fun hsorted => hback hsorted.of_cons⟩
      rcases List.mem_cons.mp hu with rfl | hu
      · exact Nat.not_lt.mp h
      · exact hfront u hu

theorem insertWait_ordered {current : FrameNo} {ws : List Wait} (w : Wait) (h : OrderedFrom current ws) :
    OrderedFrom current (insertWait current w ws) := by
  obtain ⟨front, back, hws, hinsert, hfront, hback⟩ := insertWait_split current w ws
  have hbehind := hback h
  rw [hws, OrderedFrom, List.pairwise_append] at h
  obtain ⟨hf, hb, hcross⟩ := h
  rw [hinsert, OrderedFrom, List.pairwise_append]
  refine ⟨hf, List.pairwise_cons.mpr ⟨fun v hv => Nat.le_of_lt (hbehind v hv), hb⟩, fun u hu v hv => ?_⟩
  rcases List.mem_cons.mp hv with rfl | hv
  · exact hfront u hu
  · exact hcross u hu v hv

/-- In an ordered list a wait is placed behind those of its own frame (R158). -/
theorem insertWait_filter_target {current : FrameNo} {ws : List Wait} (w : Wait) (h : OrderedFrom current ws)
    (target : FrameNo) :
    ((insertWait current w ws).filter fun v => decide (v.target = target)) =
      (ws.filter fun v => decide (v.target = target)) ++ [w].filter fun v => decide (v.target = target) := by
  obtain ⟨front, back, hws, hinsert, -, hback⟩ := insertWait_split current w ws
  have hbehind := hback h
  by_cases hw : w.target = target
  · have hnone : (back.filter fun v => decide (v.target = target)) = [] := by
      rw [List.filter_eq_nil_iff]
      intro v hv hvt
      have hlt := hbehind v hv
      rw [of_decide_eq_true hvt, hw] at hlt
      exact Nat.lt_irrefl _ hlt
    rw [hinsert, hws, List.filter_append, List.filter_append, List.filter_cons_of_pos (by simpa using hw), hnone,
      List.append_nil, List.filter_cons_of_pos (by simpa using hw), List.filter_nil]
  · rw [hinsert, hws, List.filter_append, List.filter_append, List.filter_cons_of_neg (by simpa using hw),
      List.filter_cons_of_neg (by simpa using hw), List.filter_nil, List.append_nil]

/-- Waits inserted one after another into an ordered list leave it ordered, those of one frame in their order (R160). -/
theorem foldl_insertWait (current : FrameNo) (ws : List Wait) {acc : List Wait} (h : OrderedFrom current acc) :
    OrderedFrom current (ws.foldl (fun ws w => insertWait current w ws) acc) ∧
      ∀ target : FrameNo,
        ((ws.foldl (fun ws w => insertWait current w ws) acc).filter fun w => decide (w.target = target)) =
          (acc.filter fun w => decide (w.target = target)) ++ ws.filter fun w => decide (w.target = target) := by
  induction ws generalizing acc with
  | nil => exact ⟨h, fun target => (List.append_nil _).symm⟩
  | cons w ws ih =>
    obtain ⟨hordered, hfilter⟩ := ih (insertWait_ordered w h)
    refine ⟨hordered, fun target => ?_⟩
    rw [List.foldl_cons, hfilter, insertWait_filter_target w h, List.append_assoc, ← List.filter_append, List.singleton_append]

/-! ### SYNC_WAIT (R158) -/

section syncWait

variable {r : Request} {s : State} {target : FrameNo}

theorem ownSyncWait_of_refused {status : Status} (ht : target = BitVec.ofNat 32 (beNat r.body))
    (hj : judge target s.tb.frame = some status) :
    ownSyncWait r s = answer r (body status (waitItems target s.tb.frame)) s := by
  subst ht
  simp only [ownSyncWait, hj]

theorem ownSyncWait_of_full (ht : target = BitVec.ofNat 32 (beNat r.body)) (hj : judge target s.tb.frame = none)
    (h : 4 ≤ s.engine.waits.length) : ownSyncWait r s = answer r (body .waitFull (waitItems target s.tb.frame)) s := by
  have hplaces : ¬ s.engine.waits.length < Config.waitPlaces := Nat.not_lt.mpr h
  subst ht
  simp only [ownSyncWait, hj, if_neg hplaces]

theorem ownSyncWait_of_room (ht : target = BitVec.ofNat 32 (beNat r.body)) (hj : judge target s.tb.frame = none)
    (h : s.engine.waits.length < 4) :
    ownSyncWait r s =
      s.setEngine { s.engine with waits := insertWait s.tb.frame ⟨r.key, target⟩ s.engine.waits } := by
  have hplaces : s.engine.waits.length < Config.waitPlaces := h
  subst ht
  simp only [ownSyncWait, hj, if_pos hplaces]

end syncWait

theorem serveWith_of_fresh {k : ReqKind} {own : Request → State → State} {r : Request} {s : State} (h : Fresh k r s) :
    serveWith k own s = own r (takeRequest s) := by
  obtain ⟨hd, hk, hl, hc, ha⟩ := h
  exact serveWith_carried hd hk hl hc ha

/-- Settles O42: by the judgement of the target's distance, and for an accepted one by the room in the wait list. -/
theorem syncWaitParksOrRefuses : Obligations.SyncWaitParksOrRefuses := by
  intro s r target h ht
  have hserve : exec .syncWait s = .next (ownSyncWait r (takeRequest s)) :=
    congrArg Host.Outcome.next (serveWith_of_fresh h)
  have hrefused : ∀ status, judge target s.tb.frame = some status →
      exec .syncWait s = .next (replied r ([status.code] ++ (frameBytes target ++ frameBytes s.tb.frame)) s) := by
    intro status hj
    rw [hserve, ownSyncWait_of_refused (s := takeRequest s) ht hj]
    rfl
  refine ⟨fun hlo hhi hroom => ?_, fun hlo hhi hfull => ?_, fun hlate => hrefused .late (judge_of_late hlate),
    fun hlo hhi => hrefused .badValue (judge_of_far hlo hhi)⟩
  · obtain ⟨front, back, hwaits, hinsert, hfront, hback⟩ := insertWait_split s.tb.frame ⟨r.key, target⟩ s.engine.waits
    refine ⟨front, back, hwaits, hfront, hback, ?_⟩
    rw [hserve, ownSyncWait_of_room (s := takeRequest s) ht (judge_of_near hlo hhi) hroom]
    simp only [takeRequest_engine, takeRequest_tb, hinsert]
    rfl
  · rw [hserve, ownSyncWait_of_full (s := takeRequest s) ht (judge_of_near hlo hhi) hfull]
    rfl

/-! ### The parked waits at a boundary (R159, R160) -/

theorem judge_isSome_iff {target current : FrameNo} (h : target ≠ current) :
    (judge target current).isSome = true ↔ 65535 < (target - current).toNat := by
  have hne : (target - current).toNat ≠ 0 := by bv_omega
  by_cases hfar : (target - current).toNat ≤ 65535
  · rw [judge_of_near (Nat.pos_of_ne_zero hne) hfar]
    exact iff_of_false nofun (Nat.not_lt.mpr hfar)
  · have hlt := Nat.not_le.mp hfar
    by_cases hpast : (target - current).toNat < 2147483648
    · rw [judge_of_far hlt hpast]
      exact iff_of_true rfl hlt
    · rw [judge_of_late (.inr (Nat.not_lt.mp hpast))]
      exact iff_of_true rfl hlt

/-- The due reply of a wait at the coming boundary, if it falls due there (R159, R160). -/
theorem waitDue_noticeOf (cause : Cause) (length : Nat) (s : State) (w : Wait) :
    waitDue (noticeOf cause length s) w =
      if w.target = nextFrame s then some ⟨w, .ok, nextFrame s⟩
      else if s.tb.renumber ≠ none ∧ 65535 < (w.target - nextFrame s).toNat then some ⟨w, .renumbered, nextFrame s⟩
      else none := by
  have hframe : (noticeOf cause length s).newFrame = nextFrame s := nextNumber_eq_nextFrame s
  have hrenumbered : (noticeOf cause length s).renumbered = true ↔ s.tb.renumber ≠ none := Option.isSome_iff_ne_none
  rw [waitDue, hframe]
  by_cases ht : w.target = nextFrame s
  · rw [if_pos ht, if_pos ht]
  · simp only [if_neg ht, hrenumbered, judge_isSome_iff ht]

/-- Settles O43: which waits fall due by `waitDue`, and the order of the others by their insertion one after another. -/
theorem waitsFallDueAtBoundaries : Obligations.WaitsFallDueAtBoundaries := by
  intro cause length fires s
  have hframe : (noticeOf cause length s).newFrame = nextFrame s := nextNumber_eq_nextFrame s
  have hrenumbered : (noticeOf cause length s).renumbered = s.tb.renumber.isSome := rfl
  have hdue : waitDue (noticeOf cause length s) = _ := funext (waitDue_noticeOf cause length s)
  simp only [boundary_engine, Engine.boundary, hframe, hrenumbered, hdue, true_and]
  refine ⟨fun hnone => ?_, fun hsome => ?_⟩
  · rw [hnone]
    rfl
  · rw [Option.isSome_iff_ne_none.mpr hsome]
    exact foldl_insertWait (nextFrame s) _ (acc := []) .nil

/-! ### RESTART (R162) -/

theorem exec_restart_of_fresh {s : State} {r : Request} (h : Fresh .restart r s) :
    exec .restart s = .next (ownRestart r (takeRequest s)) :=
  congrArg Host.Outcome.next (serveWith_of_fresh h)

/-! ### The replies owed (R161, R162) -/

theorem dueReplyReady_iff {s : State} :
    dueReplyReady s = true ↔ s.phase = .running ∧ s.engine.due ≠ [] ∧ s.arb.replies.length < 4 := by
  have hplaces : decide (s.arb.replies.length < Config.replyPlaces) = true ↔ s.arb.replies.length < 4 := decide_eq_true_iff
  simp [dueReplyReady, running_iff, hplaces, and_assoc]

/-- Due replies placed one after another stand behind the reply queue in their order, each in the cache as it was placed. -/
theorem foldl_placeDue (ds : List DueReply) (s : State) :
    ds.foldl (fun s' d => placeDue d s') s =
      { s with
        engine := { s.engine with cache := ds.foldl (fun cache d => remember d.wait.key d.reply cache) s.engine.cache }
        arb := { s.arb with replies := s.arb.replies ++ ds.map DueReply.reply } } := by
  induction ds generalizing s with
  | nil => rw [List.map_nil, List.append_nil]; rfl
  | cons d ds ih =>
    rw [List.foldl_cons, ih]
    simp only [placeDue, placeReply_engine, placeReply_arb, State.setEngine_engine, State.setEngine_arb, List.append_assoc,
      List.singleton_append, List.foldl_cons, List.map_cons]
    rfl

/-- The state with the due replies placed that the reply queue has room for (R161). -/
def duePlaced (s : State) : State :=
  { s with
    engine :=
      { s.engine with
        due := s.engine.due.drop (4 - s.arb.replies.length)
        cache :=
          (s.engine.due.take (4 - s.arb.replies.length)).foldl (fun cache d => remember d.wait.key d.reply cache)
            s.engine.cache }
    arb :=
      { s.arb with
        replies := s.arb.replies ++ (s.engine.due.take (4 - s.arb.replies.length)).map DueReply.reply } }

theorem exec_dueReplyPlace_of_ready {s : State} (h : dueReplyReady s = true) :
    exec .dueReplyPlace s = .next (keepDispatchOwed (duePlaced s)) := by
  simp only [exec, execDueReplyPlace, h, if_true, foldl_placeDue]
  rfl

theorem exec_dueReplyPlace_of_not_ready {s : State} (h : dueReplyReady s ≠ true) : exec .dueReplyPlace s = .next s := by
  simp only [exec, execDueReplyPlace, if_neg h]

/-- A dispatch stays owed where the oldest request still has room for its reply (R153, log 22). -/
theorem keepDispatchOwed_iff (s : State) :
    (keepDispatchOwed s).flags.dispatchOwed = true ↔
      s.flags.dispatchOwed = true ∧ s.arb.replies.length < 4 ∧
        ∃ r rest, s.engine.requests = r :: rest ∧ (r.kind = 0x03 → s.arb.replies = []) := by
  have hhead : s.engine.requests.head?.any (roomFor s) = true ↔
      ∃ r rest, s.engine.requests = r :: rest ∧ roomFor s r = true := by
    simp [Option.any_eq_true, List.head?_eq_some_iff]
  simp only [keepDispatchOwed, State.setFlags_flags, Bool.and_eq_true, hhead, roomFor_iff]
  exact and_congr_right fun _ =>
    ⟨fun ⟨r, rest, hr, hroom, hrestart⟩ => ⟨hroom, r, rest, hr, hrestart⟩,
      fun ⟨hroom, r, rest, hr, hrestart⟩ => ⟨r, rest, hr, hroom, hrestart⟩⟩

theorem exec_restartReplyPlace_of_room {s : State} {r : Reply} (hp : s.phase = .running)
    (hr : s.engine.restartReply = some r) (hd : s.engine.due = []) (hl : s.arb.replies.length < 4) :
    exec .restartReplyPlace s = .next
      (placeReply { r with restarts := true } (s.setEngine { s.engine with restartReply := none })) := by
  have hplaces : decide (s.arb.replies.length < Config.replyPlaces) = true := decide_eq_true hl
  simp only [exec, execRestartReplyPlace, hr, running_iff.mpr hp, hd, List.isEmpty_nil, hplaces, Bool.and_self, if_true]

/-- Settles O36: RESTART as its block carries it out, the due replies as the fold over them places them, and the RESTART reply
where none is due. -/
theorem owedRepliesArePlaced : Obligations.OwedRepliesArePlaced := by
  refine ⟨fun s r h => ?_, fun s hp => ⟨fun hno => ?_, fun hdue hroom => ?_⟩,
    fun s r hp hr hd hl => exec_restartReplyPlace_of_room hp hr hd hl⟩
  · have ⟨_, hkind, _⟩ := h
    rw [exec_restart_of_fresh h, ownRestart, hkind]
    rfl
  · refine exec_dueReplyPlace_of_not_ready fun hready => ?_
    obtain ⟨-, hdue, hroom⟩ := dueReplyReady_iff.mp hready
    exact hno.elim hdue (Nat.not_le.mpr hroom)
  · exact ⟨(keepDispatchOwed (duePlaced s)).flags.dispatchOwed,
      exec_dueReplyPlace_of_ready (dueReplyReady_iff.mpr ⟨hp, hdue, hroom⟩), keepDispatchOwed_iff (duePlaced s)⟩

end Sys2Proof.Machine
end

section
/-! SUPPORT. Proofs of the statements about the events that enter the event queue and the sources that the arbiter gives the
transmitter. -/

namespace Sys2Proof.Machine

open Sys2Proof Sys2Proof.Machine Sys2Proof.Claims

/-! ### Events entering the event queue (R165) -/

theorem enter_of_cons {src : Source} {s : State} {e : Event} {rest : List Event} (h : s.flags.handed.of src = e :: rest) :
    enter src s =
      (s.setArb (s.arb.raise e)).setFlags
        { s.flags with handed := s.flags.handed.put rest src, reported := s.flags.reported || src == .store } := by
  simp only [enter, h]

theorem mem_allSources (src : Source) : src ∈ allSources := by cases src <;> decide

/-- A raised event may enter the event queue, but for COMMITTED while a sampled pulse may still make its boundary a CUT (R6). -/
theorem mayEnter_iff {s : State} {src : Source} :
    mayEnter s src = true ↔ s.flags.handed.of src ≠ [] ∧ (src = .store → s.flags.edgeNow = false) := by
  simp [mayEnter, imp_iff_not_or]

theorem enter_mem_due_iff {s : State} {src : Source} :
    OwnAct.enter src ∈ due s ↔ s.phase = .running ∧ mayEnter s src = true := by
  simp [due, mandatory, elective, mem_allSources, running_iff]

theorem enter_mem_mandatory {s : State} {src : Source} (hp : s.phase = .running) (h : mayEnter s src = true) :
    OwnAct.enter src ∈ mandatory s :=
  List.mem_append_right _
    (List.mem_map_of_mem (List.mem_filter.mpr ⟨mem_allSources src, by rw [running_iff.mpr hp, h]; rfl⟩))

/-- While an event waits to enter, the tick does not end: the event itself, or the pulse that it waits for, has to be taken. -/
theorem mandatory_ne_nil_of_handed {s : State} {src : Source} (hp : s.phase = .running) (h : s.flags.handed.of src ≠ []) :
    mandatory s ≠ [] := by
  cases hm : mayEnter s src with
  | true => exact List.ne_nil_of_mem (enter_mem_mandatory hp hm)
  | false =>
    intro hnil
    have ⟨_, hedge, _⟩ := nothing_due_of_mandatory_nil hp hnil
    exact absurd (mayEnter_iff.mpr ⟨h, fun _ => hedge⟩) (by rw [hm]; exact nofun)

/-- Settles O4: what one event does as it enters, each block's list on its own, and when one may enter. -/
theorem eventsEnterOneAtATime : Obligations.EventsEnterOneAtATime := by
  refine ⟨fun src e rest s h => enter_of_cons h, fun src other es h => ⟨?_, fun hne => ?_⟩,
    fun src s hp h => ⟨mandatory_ne_nil_of_handed hp h, ?_⟩⟩
  · rw [Handed.of_put, if_pos rfl]
  · rw [Handed.of_put, if_neg hne]
  · rw [enter_mem_due_iff, mayEnter_iff]
    exact ⟨fun ⟨_, _, hedge⟩ => hedge, fun hedge => ⟨hp, h, hedge⟩⟩

/-! ### The arbiter's choice (R166) -/

section transmit

variable {s : State}

theorem captureReady_iff : captureReady s = true ↔ 0 < s.cq.credit ∧ s.cq.records ≠ [] := by
  simp [captureReady]

theorem transmitDue_of_source (hp : s.phase = .running) (hi : s.link.transmitter = .idle) (hr : restartReady s = false)
    (hs : sourceReady s = true) : transmitDue s = true := by
  simp [transmitDue, running_iff, hp, hi, hr, hs]

theorem exec_transmitStart_of_refusal {r : Reply} (hd : transmitDue s = true) (h : s.engine.refusal = some r) :
    exec .transmitStart s = .next
      (startFrame r.kind r.tag r.body r.restarts (s.setEngine { s.engine with refusal := none })) := by
  simp only [exec, execTransmitStart, hd, if_true, h]

theorem exec_transmitStart_of_reply {r : Reply} {rest : List Reply} (hd : transmitDue s = true) (hn : s.engine.refusal = none)
    (h : s.arb.replies = r :: rest) :
    exec .transmitStart s = .next
      (startFrame r.kind r.tag r.body r.restarts (s.setArb { s.arb with replies := rest })) := by
  simp only [exec, execTransmitStart, hd, if_true, hn, h]

theorem exec_transmitStart_of_event {e : Event} {rest : List Event} (hd : transmitDue s = true) (hn : s.engine.refusal = none)
    (hr : s.arb.replies = []) (h : s.arb.events = e :: rest) :
    exec .transmitStart s = .next
      (startFrame e.kind 0 (e.body s.arb.lost) false (s.setArb { s.arb with events := rest, lost := 0 })) := by
  simp only [exec, execTransmitStart, hd, if_true, hn, hr, h]

theorem exec_transmitStart_of_batch (hd : transmitDue s = true) (hn : s.engine.refusal = none) (hr : s.arb.replies = [])
    (h : s.arb.events = []) : exec .transmitStart s = .next (formBatch s) := by
  simp only [exec, execTransmitStart, hd, if_true, hn, hr, h]

theorem exec_transmitStart_of_not_due (h : transmitDue s ≠ true) : exec .transmitStart s = .next s := by
  simp only [exec, execTransmitStart, if_neg h]

/-- The batch of the k oldest records, k within their number, with k in its first byte (R128, R173). -/
theorem formBatch_eq {k : Nat} (h : k = min 16 (min s.cq.credit s.cq.records.length)) :
    formBatch s =
      { s with
        link :=
          { s.link with
            transmitter :=
              .sending
                (frameOf 0x90 0 (be1 k ++ be2 s.cq.lost ++ (s.cq.records.take k).flatMap CaptureRecord.bytes)) s.tb.tick
                false }
        cq := ⟨s.cq.records.drop k, s.cq.credit - k, 0⟩ } := by
  have hk : min Config.batchRecords (min s.cq.credit s.cq.records.length) = k := h.symm
  have hlength : (s.cq.records.take k).length = k := List.length_take_of_le (by omega)
  simp only [formBatch, hk, batchBody, hlength]
  rfl

end transmit

/-- Settles O34: each source in its turn, where those before it are empty. -/
theorem arbiterGivesByPriority : Obligations.ArbiterGivesByPriority := by
  intro s hp hi hr
  have hdue : sourceReady s = true → transmitDue s = true := transmitDue_of_source hp hi hr
  refine ⟨fun r h => ?_, fun hn => ⟨fun r rest h => ?_, fun hreplies => ⟨fun e rest h => ?_, fun h hcredit hrecords k hk => ?_⟩⟩⟩
  · exact exec_transmitStart_of_refusal (hdue (by simp [sourceReady, messageReady, h])) h
  · exact exec_transmitStart_of_reply (hdue (by simp [sourceReady, messageReady, h])) hn h
  · exact exec_transmitStart_of_event (hdue (by simp [sourceReady, messageReady, h])) hn hreplies h
  · have hready := captureReady_iff.mpr ⟨hcredit, hrecords⟩
    rw [exec_transmitStart_of_batch (hdue (by simp [sourceReady, hready])) hn hreplies h, formBatch_eq hk]

end Sys2Proof.Machine
end

section
/-! SUPPORT. Every step keeps every list within its capacity, the tags of the reply cache distinct and the saturating counters
within 16 bits. -/

namespace Sys2Proof.Machine

open Sys2Proof Sys2Proof.Machine Sys2Proof.Claims

/-! ### The law as one of the blocks that messages pass through, and of the tracker -/

/-- The blocks that requests, replies, events, capture records and received frames pass through. -/
structure MessageBlocks where
  engine : Engine
  arb : Arbiter
  cq : CaptureQueue
  counters : Counters

/-- The message blocks of a state. -/
def messageBlocks (s : State) : MessageBlocks := ⟨s.engine, s.arb, s.cq, s.link.counters⟩

/-- The engine's lists within their places, the tags of the reply cache distinct and not 0 (R151, R156, R158). -/
structure Engine.Bounded (e : Engine) : Prop where
  requests : e.requests.length ≤ 8
  cache : e.cache.length ≤ 8
  waits : e.waits.length + e.due.length ≤ 4
  tags : CacheTagsDistinct e.cache

/-- The arbiter's queues within their places, the events-lost counter within 16 bits (R164, R165). -/
structure Arbiter.Bounded (a : Arbiter) : Prop where
  replies : a.replies.length ≤ 4
  events : a.events.length ≤ 16
  lost : a.lost ≤ 65535

/-- The capture queue within its places, its two counters within 16 bits (R124, R126, R127). -/
structure CaptureQueue.Bounded (q : CaptureQueue) : Prop where
  records : q.records.length ≤ 512
  credit : q.credit ≤ 65535
  lost : q.lost ≤ 65535

/-- The link counters within 16 bits (R146). -/
structure Counters.Bounded (c : Counters) : Prop where
  framesOk : c.framesOk ≤ 65535
  crcErrors : c.crcErrors ≤ 65535
  lengthErrors : c.lengthErrors ≤ 65535
  framingErrors : c.framingErrors ≤ 65535
  timeouts : c.timeouts ≤ 65535
  busyDropped : c.busyDropped ≤ 65535

/-- The message blocks within their capacities. -/
structure MessageBlocks.Bounded (b : MessageBlocks) : Prop where
  engine : b.engine.Bounded
  arb : b.arb.Bounded
  cq : b.cq.Bounded
  counters : b.counters.Bounded

/-- The tracker's saturating counters within 16 bits (R26, R27, R30). -/
structure Tracker.CountsBounded (t : Tracker) : Prop where
  misses : t.misses ≤ 65535
  strays : t.strays ≤ 65535
  realignments : t.realignments ≤ 65535

theorem capacities_iff (s : State) :
    QueuesWithinCapacity s ∧ CacheTags s ∧ CountersWithinRange s ↔
      (messageBlocks s).Bounded ∧ s.tracker.CountsBounded := by
  constructor
  · rintro ⟨⟨requests, cache, waits, replies, events, records⟩, tags, misses, strays, realignments, credit, cqLost, lost,
      framesOk, crcErrors, lengthErrors, framingErrors, timeouts, busyDropped⟩
    exact ⟨⟨⟨requests, cache, waits, tags⟩, ⟨replies, events, lost⟩, ⟨records, credit, cqLost⟩,
      ⟨framesOk, crcErrors, lengthErrors, framingErrors, timeouts, busyDropped⟩⟩, ⟨misses, strays, realignments⟩⟩
  · rintro ⟨⟨⟨requests, cache, waits, tags⟩, ⟨replies, events, lost⟩, ⟨records, credit, cqLost⟩,
      ⟨framesOk, crcErrors, lengthErrors, framingErrors, timeouts, busyDropped⟩⟩, ⟨misses, strays, realignments⟩⟩
    exact ⟨⟨requests, cache, waits, replies, events, records⟩, tags, misses, strays, realignments, credit, cqLost, lost,
      framesOk, crcErrors, lengthErrors, framingErrors, timeouts, busyDropped⟩

/-! ### The tracker's counters (R26, R27, R30) -/

section tracker

variable {t : Tracker}

theorem Tracker.CountsBounded.inWindow (h : t.CountsBounded) (correction : Int) (frame : FrameNo) :
    (t.inWindow correction frame).1.CountsBounded := by
  rw [Tracker.inWindow_eq]
  exact ⟨Nat.zero_le _, h.strays, h.realignments⟩

theorem Tracker.CountsBounded.takeHeld (h : t.CountsBounded) (hold : PulseHold) (frame : FrameNo) :
    (t.takeHeld hold frame).1.CountsBounded := by
  have hcorrected : ({ t with corrected := true } : Tracker).CountsBounded := ⟨h.misses, h.strays, h.realignments⟩
  cases hold with
  | none => exact h
  | held => exact hcorrected.inWindow 0 frame
  | applied => exact hcorrected

theorem Tracker.CountsBounded.countHoldover (h : t.CountsBounded) (frame : FrameNo) :
    (t.countHoldover frame).1.CountsBounded := by
  by_cases hs : t.state = .holdover
  · by_cases hl : t.holdoverLimit ≤ t.holdover + 1
    · rw [Tracker.countHoldover_of_limit frame hs hl]
      exact ⟨h.misses, h.strays, h.realignments⟩
    · rw [Tracker.countHoldover_of_below frame hs hl]
      exact ⟨h.misses, h.strays, h.realignments⟩
  · rw [Tracker.countHoldover_of_ne frame hs]
    exact h

theorem Tracker.CountsBounded.reactTo (h : t.CountsBounded) (changed : Bool) (frame : FrameNo) :
    (t.reactTo changed frame).CountsBounded := by
  cases hs : t.state with
  | locked | holdover =>
    rw [Tracker.reactTo_of_following changed frame (by simp [hs])]
    exact ⟨h.misses, h.strays, h.realignments⟩
  | acquire =>
    rw [Tracker.reactTo_of_acquire changed frame hs]
    exact ⟨h.misses, h.strays, h.realignments⟩
  | lost | free =>
    rw [Tracker.reactTo_of_lost_or_free changed frame (by simp [hs])]
    exact h

theorem Tracker.CountsBounded.realign (h : t.CountsBounded) : t.realign.CountsBounded :=
  ⟨Nat.zero_le _, h.strays, satSucc_le h.realignments⟩

theorem Tracker.CountsBounded.setMode (h : t.CountsBounded) (mode : TrackMode) (frame : FrameNo) :
    (t.setMode mode frame).1.CountsBounded := by
  unfold Tracker.setMode
  split
  · exact h
  · exact ⟨h.misses, h.strays, h.realignments⟩

/-- A boundary counts at most a realignment, with cause CUT (R30). -/
theorem Tracker.CountsBounded.boundary (h : t.CountsBounded) (n : Notice) (hold : PulseHold) (changed : Bool)
    (planned discarded : Nat) : (t.boundary n hold changed planned discarded).1.CountsBounded := by
  have hbegun : ∀ corrected, ({ t with window := t.w, corrected := corrected } : Tracker).CountsBounded := fun _ =>
    ⟨h.misses, h.strays, h.realignments⟩
  cases hc : n.cause with
  | nominal =>
    rw [Tracker.boundary_nominal hc]
    exact (((hbegun false).takeHeld ..).countHoldover _).reactTo ..
  | early =>
    rw [Tracker.boundary_early hc]
    exact ((hbegun true).inWindow ..).reactTo ..
  | cut =>
    rw [Tracker.boundary_cut hc]
    exact (hbegun true).realign.reactTo ..

end tracker

theorem boundary_countsBounded {s : State} (cause : Cause) (length fires : Nat) (h : s.tracker.CountsBounded) :
    (boundary cause length fires s).tracker.CountsBounded := by
  rw [boundary_tracker]
  exact h.boundary ..

theorem pulseFollowing_countsBounded {s : State} (fires : Nat) (h : s.tracker.CountsBounded) :
    (pulseFollowing fires s).tracker.CountsBounded := by
  have hcorrected : ({ s.tracker with corrected := true } : Tracker).CountsBounded := ⟨h.misses, h.strays, h.realignments⟩
  unfold pulseFollowing
  split
  · exact h
  · split
    · exact hcorrected.inWindow ..
    · split
      · exact boundary_countsBounded _ _ _ h
      · exact ⟨h.misses, satSucc_le h.strays, h.realignments⟩

theorem pulseAcquire_countsBounded {s : State} (fires : Nat) (h : s.tracker.CountsBounded) :
    (pulseAcquire fires s).tracker.CountsBounded := by
  unfold pulseAcquire
  split
  · split
    · exact boundary_countsBounded _ _ _ h
    · split
      · unfold realignAtStart
        split
        · exact h.realign
        · exact h
      · exact boundary_countsBounded _ _ _ h
  · exact ⟨h.misses, h.strays, h.realignments⟩

theorem takePulse_countsBounded {s : State} (fires : Nat) (h : s.tracker.CountsBounded) :
    (takePulse fires s).tracker.CountsBounded := by
  unfold takePulse
  split
  · exact h
  · split
    · exact pulseFollowing_countsBounded fires h
    · exact pulseFollowing_countsBounded fires h
    · exact pulseAcquire_countsBounded fires h
    · exact ⟨h.misses, h.strays, h.realignments⟩
    · exact h

theorem tracker_reset_countsBounded : Tracker.reset.CountsBounded := ⟨Nat.zero_le _, Nat.zero_le _, Nat.zero_le _⟩

theorem execReferencePulse_countsBounded {s t : State} (edge : PulseEdge) (h : s.tracker.CountsBounded)
    (e : exec (.referencePulse edge) s = .next t) : t.tracker.CountsBounded := by
  have hs : (settleRestart s).tracker.CountsBounded := by
    unfold settleRestart
    split
    · exact tracker_reset_countsBounded
    · exact h
  cases e
  split
  · dsimp only
    split
    · exact hs
    · exact takePulse_countsBounded edge.fires hs
  · exact h

theorem execMiss_countsBounded {s t : State} (h : s.tracker.CountsBounded) (e : exec .miss s = .next t) :
    t.tracker.CountsBounded := by
  by_cases hd : missDue s = true
  · by_cases hl : s.tracker.state = .locked ∧ s.tracker.missLimit ≤ satSucc s.tracker.misses
    · cases (exec_miss_of_limit hd hl.1 hl.2).symm.trans e
      exact ⟨satSucc_le h.misses, h.strays, h.realignments⟩
    · cases (exec_miss_of_counted hd hl).symm.trans e
      exact ⟨satSucc_le h.misses, h.strays, h.realignments⟩
  · cases (exec_miss_of_not_due hd).symm.trans e
    exact h

theorem ownTrackConfig_countsBounded {s : State} (b : List Byte) (h : s.tracker.CountsBounded) :
    (ownTrackConfig b s).1.tracker.CountsBounded := by
  have ha : (applyHeld s).tracker.CountsBounded := by
    unfold applyHeld
    split
    · exact h.inWindow ..
    · exact h
    · exact h
  unfold ownTrackConfig
  dsimp only
  split
  · exact ha
  · rename_i f _
    exact Tracker.CountsBounded.setMode (t := (applyHeld s).tracker.withParameters f)
      ⟨ha.misses, ha.strays, ha.realignments⟩ _ _

theorem ownTrackStatus_countsBounded {s : State} (b : List Byte) (h : s.tracker.CountsBounded) :
    (ownTrackStatus b s).1.tracker.CountsBounded := by
  unfold ownTrackStatus
  split
  · exact h
  · rename_i clear _
    cases clear with
    | true => exact ⟨h.misses, Nat.zero_le _, Nat.zero_le _⟩
    | false => exact h

/-- A dispatch keeps the tracker's counters bounded where its owning block does. -/
theorem serve_countsBounded {k : ReqKind} {own : List Byte → State → State × List Byte}
    (h : ∀ b s, s.tracker.CountsBounded → (own b s).1.tracker.CountsBounded) {s : State} (hs : s.tracker.CountsBounded) :
    (serve k own s).tracker.CountsBounded :=
  serve_keeps (P := fun s => s.tracker.CountsBounded) (fun _ h => h) (fun _ _ _ h => h) (fun _ _ h => h) h s hs

/-- The writers of the frame blocks keep the tracker's counters bounded. -/
theorem writer_keeps_countsBounded (c : Instr) (s t : State) (hc : writesFrameBlocks c = true)
    (h : s.tracker.CountsBounded) (e : exec c s = .next t) : t.tracker.CountsBounded := by
  have hkept : t.tracker = s.tracker → t.tracker.CountsBounded := fun heq => heq ▸ h
  cases c with
  | referencePulse edge => exact execReferencePulse_countsBounded edge h e
  | nominalBoundary fires =>
    simp only [exec, execNominalBoundary] at e
    cases e
    split
    · exact boundary_countsBounded _ _ _ h
    · exact h
  | miss => exact execMiss_countsBounded h e
  | frameOutEnd =>
    simp only [exec, execFrameOutEnd] at e
    cases e
    split <;> exact h
  | entryFire =>
    simp only [exec, execEntryFire] at e
    cases e
    split
    · split <;> exact h
    · exact h
  | trackConfig => cases e; exact serve_countsBounded (fun b _ => ownTrackConfig_countsBounded b) h
  | trackStatus => cases e; exact serve_countsBounded (fun b _ => ownTrackStatus_countsBounded b) h
  | frameRenumber => cases e; exact hkept (serve_tracker ownFrameRenumber_tracker s)
  | commit => cases e; exact hkept (serve_tracker ownCommit_tracker s)
  | commitCancel => cases e; exact hkept (serve_tracker ownCommitCancel_tracker s)
  | entryAdd | entryRemove | bankClear | bankCopy | bankLength =>
    cases e
    exact hkept (serve_tracker (fun _ s => editShadow_tracker s) s)
  | _ => cases hc

theorem step_countsBounded {s t : State} (h : s.tracker.CountsBounded) (e : step s = .next t) :
    t.tracker.CountsBounded :=
  step_keeps_of_writers (P := fun b => b.tracker.CountsBounded) tracker_reset_countsBounded (fun _ h => h)
    writer_keeps_countsBounded h e

/-! ### Replacing one message block -/

section replace

variable {b : MessageBlocks}

theorem MessageBlocks.Bounded.withEngine (h : b.Bounded) {e : Engine} (he : e.Bounded) : { b with engine := e }.Bounded :=
  ⟨he, h.arb, h.cq, h.counters⟩

theorem MessageBlocks.Bounded.withArb (h : b.Bounded) {a : Arbiter} (ha : a.Bounded) : { b with arb := a }.Bounded :=
  ⟨h.engine, ha, h.cq, h.counters⟩

theorem MessageBlocks.Bounded.withCq (h : b.Bounded) {q : CaptureQueue} (hq : q.Bounded) : { b with cq := q }.Bounded :=
  ⟨h.engine, h.arb, hq, h.counters⟩

theorem MessageBlocks.Bounded.withCounters (h : b.Bounded) {c : Counters} (hc : c.Bounded) :
    { b with counters := c }.Bounded :=
  ⟨h.engine, h.arb, h.cq, hc⟩

end replace

theorem Arbiter.Bounded.place {a : Arbiter} (h : a.Bounded) (hroom : a.replies.length < 4) (reply : Reply) :
    { a with replies := a.replies ++ [reply] }.Bounded :=
  ⟨by rw [List.length_append]; exact hroom, h.events, h.lost⟩

theorem Arbiter.Bounded.raise {a : Arbiter} (h : a.Bounded) (e : Event) : (a.raise e).Bounded := by
  obtain ⟨hevents, hlost⟩ := a.raise_bounds e ⟨h.events, h.lost⟩
  exact ⟨a.raise_replies e ▸ h.replies, hevents, hlost⟩

theorem Engine.Bounded.remember {e : Engine} (h : e.Bounded) (key : RetryKey) (reply : Reply) :
    { e with cache := remember key reply e.cache }.Bounded :=
  ⟨h.requests, remember_length_le key reply h.cache, h.waits, remember_tags_distinct key reply h.tags⟩

/-- A boundary moves waits to the due replies and touches neither the requests nor the cache (R159, R160). -/
theorem Engine.Bounded.boundary {e : Engine} (h : e.Bounded) (n : Notice) : (e.boundary n).Bounded :=
  ⟨h.requests, h.cache, (Engine.boundary_waits_due n e).le.trans h.waits, h.tags⟩

theorem CaptureQueue.Bounded.arrive {q : CaptureQueue} (h : q.Bounded) (r : CaptureRecord) : (q.arrive r).Bounded := by
  by_cases hroom : q.records.length < 512
  · rw [arrive_of_room r hroom]
    exact ⟨by rw [List.length_append]; exact hroom, h.credit, h.lost⟩
  · rw [arrive_of_full r (Nat.not_lt.mp hroom)]
    exact ⟨h.records, h.credit, satSucc_le h.lost⟩

theorem CaptureQueue.Bounded.foldl_arrive {q : CaptureQueue} (h : q.Bounded) (rs : List CaptureRecord) :
    (rs.foldl CaptureQueue.arrive q).Bounded := by
  induction rs generalizing q with
  | nil => exact h
  | cons r rs ih => exact ih (h.arrive r)

section counters

variable {c : Counters}

theorem Counters.Bounded.addFramesOk (h : c.Bounded) : c.addFramesOk.Bounded :=
  { h with framesOk := satSucc_le h.framesOk }

theorem Counters.Bounded.addCrcError (h : c.Bounded) : c.addCrcError.Bounded :=
  { h with crcErrors := satSucc_le h.crcErrors }

theorem Counters.Bounded.addLengthError (h : c.Bounded) : c.addLengthError.Bounded :=
  { h with lengthErrors := satSucc_le h.lengthErrors }

theorem Counters.Bounded.addFramingError (h : c.Bounded) : c.addFramingError.Bounded :=
  { h with framingErrors := satSucc_le h.framingErrors }

theorem Counters.Bounded.addTimeout (h : c.Bounded) : c.addTimeout.Bounded :=
  { h with timeouts := satSucc_le h.timeouts }

theorem Counters.Bounded.addBusyDropped (h : c.Bounded) : c.addBusyDropped.Bounded :=
  { h with busyDropped := satSucc_le h.busyDropped }

theorem Counters.zero_bounded : Counters.zero.Bounded := by constructor <;> exact Nat.zero_le _

end counters

/-! ### Resets (R14, R163) -/

theorem Engine.reset_bounded {cache : List CacheEntry} (hlength : cache.length ≤ 8) (htags : CacheTagsDistinct cache) :
    (Engine.reset cache).Bounded :=
  ⟨Nat.zero_le _, hlength, Nat.zero_le _, htags⟩

theorem Arbiter.reset_bounded (cause : ReadyCause) : (Arbiter.reset cause).Bounded := by
  constructor <;> simp [Arbiter.reset]

theorem CaptureQueue.reset_bounded : CaptureQueue.reset.Bounded := by constructor <;> exact Nat.zero_le _

theorem heldInReset_bounded (s : State) : (messageBlocks (heldInReset s)).Bounded :=
  ⟨Engine.reset_bounded (Nat.zero_le _) ⟨.nil, nofun⟩, by constructor <;> exact Nat.zero_le _, CaptureQueue.reset_bounded,
    Counters.zero_bounded⟩

theorem startLock_bounded (cause : ReadyCause) (baud1 baud0 : Level) (s : State) :
    (messageBlocks (startLock cause baud1 baud0 s)).Bounded :=
  heldInReset_bounded s

theorem lockEffect_bounded (cause : ReadyCause) (s : State) : (messageBlocks (lockEffect cause s)).Bounded :=
  ⟨Engine.reset_bounded (Nat.zero_le _) ⟨.nil, nofun⟩, Arbiter.reset_bounded cause, CaptureQueue.reset_bounded,
    Counters.zero_bounded⟩

/-- The restart keeps the reply cache and the link counters, and empties the rest (R163). -/
theorem restartEffect_bounded {s : State} (h : (messageBlocks s).Bounded) : (messageBlocks (restartEffect s)).Bounded :=
  ⟨Engine.reset_bounded h.engine.cache h.engine.tags, Arbiter.reset_bounded .restart, CaptureQueue.reset_bounded, h.counters⟩

theorem settleRestart_bounded {s : State} (h : (messageBlocks s).Bounded) : (messageBlocks (settleRestart s)).Bounded := by
  unfold settleRestart
  split
  · exact restartEffect_bounded h
  · exact h

/-! ### Boundaries, pins and the group of edges -/

theorem boundary_bounded {s : State} (cause : Cause) (length fires : Nat) (h : (messageBlocks s).Bounded) :
    (messageBlocks (boundary cause length fires s)).Bounded :=
  h.withEngine (h.engine.boundary (noticeOf cause length s))

theorem takePulse_bounded {s : State} (fires : Nat) (h : (messageBlocks s).Bounded) :
    (messageBlocks (takePulse fires s)).Bounded := by
  have hfollowing : (messageBlocks (pulseFollowing fires s)).Bounded := by
    unfold pulseFollowing
    split
    · exact h
    · split
      · exact h
      · split
        · exact boundary_bounded _ _ _ h
        · exact h
  have hacquire : (messageBlocks (pulseAcquire fires s)).Bounded := by
    unfold pulseAcquire
    split
    · split
      · exact boundary_bounded _ _ _ h
      · split
        · unfold realignAtStart
          split <;> exact h
        · exact boundary_bounded _ _ _ h
    · exact h
  unfold takePulse
  split
  · exact h
  · split
    · exact hfollowing
    · exact hfollowing
    · exact hacquire
    · exact h
    · exact h

theorem execReferencePulse_bounded {s t : State} (edge : PulseEdge) (h : (messageBlocks s).Bounded)
    (e : exec (.referencePulse edge) s = .next t) : (messageBlocks t).Bounded := by
  have hs := settleRestart_bounded h
  cases e
  split
  · dsimp only
    split
    · exact hs
    · exact takePulse_bounded edge.fires hs
  · exact h

theorem setLatch_messageBlocks (cause : SafeCause) (s : State) : messageBlocks (setLatch cause s) = messageBlocks s := by
  unfold setLatch
  split <;> rfl

theorem sampleSafe_messageBlocks (s : State) : messageBlocks (sampleSafe s) = messageBlocks s := by
  unfold sampleSafe
  dsimp only
  split
  · rfl
  · split <;> rfl

theorem sampleInput_messageBlocks (lane : Lane) (s : State) : messageBlocks (sampleInput lane s) = messageBlocks s := by
  unfold sampleInput
  dsimp only
  split
  · rfl
  · split <;> rfl

theorem execEdgeQualified_bounded {s t : State} (before : BitVec 16) (h : (messageBlocks s).Bounded)
    (e : exec (.edgeQualified before) s = .next t) : (messageBlocks t).Bounded := by
  by_cases hd : edgesDue s = true
  · obtain ⟨u, hu, hgroup⟩ := exec_edgeQualified before hd
    have hcq : u.cq.Bounded := hgroup.cq ▸ h.cq.foldl_arrive _
    cases hu.symm.trans e
    rw [hgroup.rest]
    exact h.withCq hcq
  · simp only [exec, execEdgeQualified, if_neg hd] at e
    cases e
    exact h

/-! ### The link port (R141 to R146, R151) -/

theorem intake_bounded {s : State} (r : Request) (h : (messageBlocks s).Bounded) : (messageBlocks (intake r s)).Bounded := by
  have he := h.engine
  cases hs : s.engine.state with
  | restarting =>
    rw [intake_of_restarting hs]
    exact h
  | running =>
    by_cases hroom : s.engine.requests.length < 8
    · rw [intake_of_place hs hroom]
      exact h.withEngine ⟨by rw [List.length_append]; exact hroom, he.cache, he.waits, he.tags⟩
    · by_cases hr : s.engine.refusal = none
      · rw [intake_of_refusal hs (Nat.not_lt.mp hroom) hr]
        exact h.withEngine ⟨he.requests, he.cache, he.waits, he.tags⟩
      · rw [intake_of_full hs (Nat.not_lt.mp hroom) hr]
        exact h.withCounters h.counters.addBusyDropped

theorem execReceiveFrame_bounded {s t : State} (low : Byte) (h : (messageBlocks s).Bounded)
    (e : exec (.receiveFrame low) s = .next t) : (messageBlocks t).Bounded := by
  have hended : ∀ {c : Counters}, c.Bounded → (messageBlocks (settleRestart (frameEnded c s))).Bounded := fun hc =>
    settleRestart_bounded (h.withCounters hc)
  by_cases hi : itemNow s = true
  · cases ha : awaited s with
    | none =>
      simp only [exec, execReceiveFrame, hi, if_true, ha] at e
      cases e
      exact h
    | some p =>
      by_cases hcrc : p.crcHigh ++ low = p.crc
      · cases (exec_receiveFrame_of_equal hi ha hcrc).symm.trans e
        exact intake_bounded _ (hended h.counters.addFramesOk)
      · cases (exec_receiveFrame_of_unequal hi ha hcrc).symm.trans e
        exact hended h.counters.addCrcError
  · obtain ⟨-, -, -, -, hsame⟩ := exec_byte_of_not_itemNow low (Bool.eq_false_iff.mpr hi)
    cases hsame.symm.trans e
    exact h

theorem execGoodByte_bounded {s t : State} (b : Byte) (h : (messageBlocks s).Bounded)
    (e : exec (.goodByte b) s = .next t) : (messageBlocks t).Bounded := by
  cases e
  split
  · dsimp only
    split
    · exact settleRestart_bounded h
    · exact h
  · exact h

theorem execNoiseByte_bounded {s t : State} (b : Byte) (h : (messageBlocks s).Bounded)
    (e : exec (.noiseByte b) s = .next t) : (messageBlocks t).Bounded := by
  have hs := settleRestart_bounded h
  cases e
  split
  · dsimp only
    split
    · exact hs.withCounters hs.counters.addFramingError
    · exact h
  · exact h

theorem execStopBitError_bounded {s t : State} (h : (messageBlocks s).Bounded) (e : exec .stopBitError s = .next t) :
    (messageBlocks t).Bounded := by
  have hs := settleRestart_bounded h
  cases e
  split
  · exact hs.withCounters hs.counters.addFramingError
  · exact h

theorem execLengthError_bounded {s t : State} (b : Byte) (h : (messageBlocks s).Bounded)
    (e : exec (.lengthError b) s = .next t) : (messageBlocks t).Bounded := by
  cases e
  split
  · exact h.withCounters h.counters.addLengthError
  · exact h

theorem execFrameTimeout_bounded {s t : State} (h : (messageBlocks s).Bounded) (e : exec .frameTimeout s = .next t) :
    (messageBlocks t).Bounded := by
  cases e
  split
  · exact h.withCounters h.counters.addTimeout
  · exact h

/-! ### The arbiter (R128, R164 to R166) -/

theorem execTransmitStart_bounded {s t : State} (h : (messageBlocks s).Bounded) (e : exec .transmitStart s = .next t) :
    (messageBlocks t).Bounded := by
  have he := h.engine
  have ha := h.arb
  have hq := h.cq
  by_cases hd : transmitDue s = true
  · cases hn : s.engine.refusal with
    | some r =>
      cases (exec_transmitStart_of_refusal hd hn).symm.trans e
      exact h.withEngine ⟨he.requests, he.cache, he.waits, he.tags⟩
    | none =>
      cases hr : s.arb.replies with
      | cons r rest =>
        cases (exec_transmitStart_of_reply hd hn hr).symm.trans e
        have hlength : (r :: rest).length ≤ 4 := hr ▸ ha.replies
        exact h.withArb ⟨(Nat.le_succ _).trans hlength, ha.events, ha.lost⟩
      | nil =>
        cases hv : s.arb.events with
        | cons v rest =>
          cases (exec_transmitStart_of_event hd hn hr hv).symm.trans e
          have hlength : (v :: rest).length ≤ 16 := hv ▸ ha.events
          exact h.withArb ⟨ha.replies, (Nat.le_succ _).trans hlength, Nat.zero_le _⟩
        | nil =>
          cases (exec_transmitStart_of_batch hd hn hr hv).symm.trans e
          rw [formBatch_eq rfl]
          exact h.withCq ⟨(List.drop_sublist ..).length_le.trans hq.records, (Nat.sub_le ..).trans hq.credit, Nat.zero_le _⟩
  · cases (exec_transmitStart_of_not_due hd).symm.trans e
    exact h

theorem foldl_remember_bounded {cache : List CacheEntry} (hlength : cache.length ≤ 8) (htags : CacheTagsDistinct cache)
    (ds : List DueReply) :
    (ds.foldl (fun cache d => remember d.wait.key d.reply cache) cache).length ≤ 8 ∧
      CacheTagsDistinct (ds.foldl (fun cache d => remember d.wait.key d.reply cache) cache) := by
  induction ds generalizing cache with
  | nil => exact ⟨hlength, htags⟩
  | cons d ds ih => exact ih (remember_length_le _ _ hlength) (remember_tags_distinct _ _ htags)

/-- As many due replies are placed as the reply queue has free places, and each leaves the due replies (R161). -/
theorem duePlaced_bounded {s : State} (h : (messageBlocks s).Bounded) : (messageBlocks (duePlaced s)).Bounded := by
  have hwaits : s.engine.waits.length + s.engine.due.length ≤ 4 := h.engine.waits
  have hreplies : s.arb.replies.length ≤ 4 := h.arb.replies
  obtain ⟨hlength, htags⟩ := foldl_remember_bounded h.engine.cache h.engine.tags
    (s.engine.due.take (4 - s.arb.replies.length))
  have hengine : (duePlaced s).engine.Bounded := by
    refine ⟨h.engine.requests, hlength, ?_, htags⟩
    simp only [duePlaced, List.length_drop]
    omega
  have harb : (duePlaced s).arb.Bounded := by
    refine ⟨?_, h.arb.events, h.arb.lost⟩
    simp only [duePlaced, List.length_append, List.length_map, List.length_take]
    omega
  exact (h.withEngine hengine).withArb harb

theorem execDueReplyPlace_bounded {s t : State} (h : (messageBlocks s).Bounded) (e : exec .dueReplyPlace s = .next t) :
    (messageBlocks t).Bounded := by
  by_cases hd : dueReplyReady s = true
  · cases (exec_dueReplyPlace_of_ready hd).symm.trans e
    exact duePlaced_bounded h
  · cases (exec_dueReplyPlace_of_not_ready hd).symm.trans e
    exact h

theorem placeReply_bounded {s : State} (reply : Reply) (h : (messageBlocks s).Bounded) (hroom : s.arb.replies.length < 4) :
    (messageBlocks (placeReply reply s)).Bounded :=
  h.withArb (h.arb.place hroom reply)

theorem execRestartReplyPlace_bounded {s t : State} (h : (messageBlocks s).Bounded)
    (e : exec .restartReplyPlace s = .next t) : (messageBlocks t).Bounded := by
  have he := h.engine
  cases e
  split
  · split
    · rename_i hplace
      simp only [Bool.and_eq_true] at hplace
      refine placeReply_bounded _ ?_ (of_decide_eq_true hplace.2)
      exact h.withEngine ⟨he.requests, he.cache, he.waits, he.tags⟩
    · exact h
  · exact h

/-! ### Requests (R153 to R158) -/

section dispatch

variable {s : State}

theorem takeRequest_bounded (h : (messageBlocks s).Bounded) : (messageBlocks (takeRequest s)).Bounded :=
  h.withEngine ⟨(List.tail_sublist _).length_le.trans h.engine.requests, h.engine.cache, h.engine.waits, h.engine.tags⟩

theorem answerWith_bounded (kind : Byte) (r : Request) (b : List Byte) (h : (messageBlocks s).Bounded)
    (hroom : s.arb.replies.length < 4) : (messageBlocks (answerWith kind r b s)).Bounded :=
  placeReply_bounded _ (h.withEngine (h.engine.remember r.key ⟨kind, r.tag, b, false⟩)) hroom

/-- A dispatch finds room in the reply queue, and no due reply (R153). -/
theorem room_of_dispatchable {r : Request} (h : dispatchable s = some r) :
    s.engine.due = [] ∧ s.arb.replies.length < 4 := by
  obtain ⟨-, -, -, hdue, hroom, -⟩ := openRequest_some (dispatchable_some h).1
  exact ⟨hdue, hroom⟩

/-- A dispatch keeps the law where its owning block does, given what a dispatch finds. -/
theorem serveWith_bounded {k : ReqKind} {own : Request → State → State} (h : (messageBlocks s).Bounded)
    (carried : ∀ r u, (messageBlocks u).Bounded → u.engine.due = [] → u.arb.replies.length < 4 →
      (messageBlocks (own r u)).Bounded) : (messageBlocks (serveWith k own s)).Bounded := by
  have htake := takeRequest_bounded h
  refine serveWith_elim (motive := fun t => (messageBlocks t).Bounded) k own s h
    (fun r reply hd _ => ?_) (fun _ _ => htake) (fun r hd => ?_) (fun r hd _ _ => ?_)
  all_goals obtain ⟨hdue, hroom⟩ := room_of_dispatchable hd
  · exact placeReply_bounded reply htake hroom
  · exact answerWith_bounded _ r _ htake hroom
  · exact carried r _ htake hdue hroom

/-- A dispatch that its block answers at once keeps the law where the block does, and leaves the room for its reply. -/
theorem serve_bounded {k : ReqKind} {own : List Byte → State → State × List Byte} (h : (messageBlocks s).Bounded)
    (hown : ∀ b u, (messageBlocks u).Bounded → (messageBlocks (own b u).1).Bounded)
    (harb : ∀ b u, (own b u).1.arb = u.arb) : (messageBlocks (serve k own s)).Bounded :=
  serveWith_bounded h fun r u hu _ hroom => answerWith_bounded _ r _ (hown r.body u hu) (harb r.body u ▸ hroom)

/-- A dispatch whose block leaves the message blocks keeps the law. -/
theorem serve_bounded_of_kept {k : ReqKind} {own : List Byte → State → State × List Byte} (h : (messageBlocks s).Bounded)
    (hown : ∀ b u, messageBlocks (own b u).1 = messageBlocks u) : (messageBlocks (serve k own s)).Bounded :=
  serve_bounded h (fun b u hu => (hown b u).symm ▸ hu) fun b u => congrArg MessageBlocks.arb (hown b u)

theorem execUnknownKind_bounded {t : State} (h : (messageBlocks s).Bounded) (e : exec .unknownKind s = .next t) :
    (messageBlocks t).Bounded := by
  have htake := takeRequest_bounded h
  cases e
  split
  · exact h
  · rename_i r hd
    obtain ⟨-, hroom⟩ := room_of_dispatchable hd
    split
    · dsimp only
      split
      · rename_i u hu
        unfold retryOutcome at hu
        split at hu
        · cases hu
          exact placeReply_bounded _ htake hroom
        · split at hu
          · cases hu
            exact htake
          · cases hu
      · exact answerWith_bounded _ r _ htake hroom
    · exact h

/-- RESTART turns every wait into a due reply (R162). -/
theorem ownRestart_bounded (r : Request) (h : (messageBlocks s).Bounded) : (messageBlocks (ownRestart r s)).Bounded := by
  have hwaits : s.engine.waits.length + s.engine.due.length ≤ 4 := h.engine.waits
  have hremember := h.engine.remember r.key ⟨replyKind r.kind, r.tag, body .ok [], false⟩
  refine h.withEngine ⟨h.engine.requests, hremember.cache, ?_, hremember.tags⟩
  simp only [ownRestart, State.setEngine_engine, List.length_append, List.length_map, List.length_nil]
  omega

/-- A wait is parked where fewer than 4 are and no due reply waits (R153, R158). -/
theorem ownSyncWait_bounded (r : Request) (h : (messageBlocks s).Bounded) (hdue : s.engine.due = [])
    (hroom : s.arb.replies.length < 4) : (messageBlocks (ownSyncWait r s)).Bounded := by
  cases hj : judge (BitVec.ofNat 32 (beNat r.body)) s.tb.frame with
  | some status =>
    rw [ownSyncWait_of_refused rfl hj]
    exact answerWith_bounded _ r _ h hroom
  | none =>
    by_cases hwaits : s.engine.waits.length < 4
    · rw [ownSyncWait_of_room rfl hj hwaits]
      refine h.withEngine ⟨h.engine.requests, h.engine.cache, ?_, h.engine.tags⟩
      simp only [State.setEngine_engine, insertWait_length, hdue]
      exact hwaits
    · rw [ownSyncWait_of_full rfl hj (Nat.not_lt.mp hwaits)]
      exact answerWith_bounded _ r _ h hroom

theorem ownLinkStats_bounded (b : List Byte) (h : (messageBlocks s).Bounded) :
    (messageBlocks (ownLinkStats b s).1).Bounded := by
  unfold ownLinkStats
  split
  · exact h
  · rename_i clear _
    cases clear with
    | true => exact h.withCounters Counters.zero_bounded
    | false => exact h

theorem ownLinkStats_arb (b : List Byte) (s : State) : (ownLinkStats b s).1.arb = s.arb := by
  unfold ownLinkStats
  split
  · rfl
  · rename_i clear _
    cases clear <;> rfl

theorem ownCaptureGrant_bounded (b : List Byte) (h : (messageBlocks s).Bounded) :
    (messageBlocks (ownCaptureGrant b s).1).Bounded :=
  h.withCq ⟨h.cq.records, Nat.min_le_left .., h.cq.lost⟩

theorem ownCaptureFlush_bounded (b : List Byte) (h : (messageBlocks s).Bounded) :
    (messageBlocks (ownCaptureFlush b s).1).Bounded :=
  h.withCq ⟨Nat.zero_le _, h.cq.credit, h.cq.lost⟩

end dispatch

/-! ### Requests whose blocks leave the message blocks -/

section kept

variable (b : List Byte) (s : State)

theorem ownFrameRenumber_messageBlocks : messageBlocks (ownFrameRenumber b s).1 = messageBlocks s := by
  unfold ownFrameRenumber
  split <;> rfl

theorem applyHeld_messageBlocks : messageBlocks (applyHeld s) = messageBlocks s := by
  unfold applyHeld
  split <;> rfl

theorem ownTrackConfig_messageBlocks : messageBlocks (ownTrackConfig b s).1 = messageBlocks s := by
  have hconfigure : ∀ f, messageBlocks (configure f (applyHeld s)) = messageBlocks (applyHeld s) := fun _ => rfl
  unfold ownTrackConfig
  dsimp only
  split
  · exact applyHeld_messageBlocks s
  · exact (hconfigure _).trans (applyHeld_messageBlocks s)

theorem ownTrackStatus_messageBlocks : messageBlocks (ownTrackStatus b s).1 = messageBlocks s := by
  unfold ownTrackStatus
  split
  · rfl
  · rename_i clear _
    cases clear <;> rfl

theorem editShadow_messageBlocks (absent : List Byte) (edit : Bank → Except Status (List Byte × Bank)) :
    messageBlocks (editShadow absent edit s).1 = messageBlocks s :=
  editShadow_elim (P := fun t => messageBlocks t = messageBlocks s) s (fun _ _ _ => rfl) rfl

theorem ownBankRead_messageBlocks : messageBlocks (ownBankRead b s).1 = messageBlocks s := by
  unfold ownBankRead
  split
  · split
    · rfl
    · split <;> rfl
  · rfl

theorem ownCommit_messageBlocks : messageBlocks (ownCommit b s).1 = messageBlocks s := by
  unfold ownCommit
  split
  · rfl
  · split
    · rfl
    · split <;> rfl

theorem ownCommitCancel_messageBlocks : messageBlocks (ownCommitCancel b s).1 = messageBlocks s := by
  unfold ownCommitCancel
  split <;> rfl

theorem changeLane_messageBlocks (laneByte : Byte) (own : OutLane → Status × OutLane) :
    messageBlocks (changeLane laneByte own s).1 = messageBlocks s := by
  unfold changeLane
  split <;> rfl

theorem ownLaneConfig_messageBlocks : messageBlocks (ownLaneConfig b s).1 = messageBlocks s := by
  unfold ownLaneConfig
  split
  · exact changeLane_messageBlocks ..
  · rfl

theorem ownLaneForce_messageBlocks : messageBlocks (ownLaneForce b s).1 = messageBlocks s := by
  unfold ownLaneForce
  split
  · exact changeLane_messageBlocks ..
  · rfl

theorem ownLaneRelease_messageBlocks : messageBlocks (ownLaneRelease b s).1 = messageBlocks s := by
  unfold ownLaneRelease
  split
  · exact changeLane_messageBlocks ..
  · rfl

theorem ownLaneStatus_messageBlocks : messageBlocks (ownLaneStatus b s).1 = messageBlocks s := by
  unfold ownLaneStatus
  split <;> rfl

theorem ownSafeRelease_messageBlocks : messageBlocks (ownSafeRelease b s).1 = messageBlocks s := by
  unfold ownSafeRelease
  split <;> rfl

theorem ownInputConfig_messageBlocks : messageBlocks (ownInputConfig b s).1 = messageBlocks s := by
  unfold ownInputConfig
  split
  · split
    · rfl
    · split <;> rfl
  · rfl

theorem ownLatchRead_messageBlocks : messageBlocks (ownLatchRead b s).1 = messageBlocks s := by
  unfold ownLatchRead
  split
  · rfl
  · dsimp only
    split
    · rfl
    · split <;> rfl

end kept

/-! ### Every step -/

section power

variable {s t : State}

theorem execPowerOn_bounded (baud1 baud0 : Level) (h : (messageBlocks s).Bounded)
    (e : exec (.powerOn baud1 baud0) s = .next t) : (messageBlocks t).Bounded := by
  cases e
  split
  · exact h
  · split
    · exact startLock_bounded ..
    · exact heldInReset_bounded _

theorem execResetNAssert_bounded (h : (messageBlocks s).Bounded) (e : exec .resetNAssert s = .next t) :
    (messageBlocks t).Bounded := by
  cases e
  split
  · exact h
  · exact heldInReset_bounded _

theorem execResetNRelease_bounded (baud1 baud0 : Level) (h : (messageBlocks s).Bounded)
    (e : exec (.resetNRelease baud1 baud0) s = .next t) : (messageBlocks t).Bounded := by
  cases e
  split
  · exact h
  · split
    · exact startLock_bounded ..
    · exact heldInReset_bounded _

theorem execSynthesizerLock_bounded (h : (messageBlocks s).Bounded) (e : exec .synthesizerLock s = .next t) :
    (messageBlocks t).Bounded := by
  cases e
  split
  · exact lockEffect_bounded ..
  · exact h
  · exact h

theorem execSupplyLoss_bounded (h : (messageBlocks s).Bounded) (e : exec .supplyLoss s = .next t) :
    (messageBlocks t).Bounded := by
  cases e
  split
  · exact heldInReset_bounded _
  · exact h

end power

/-- Every command keeps the message blocks within their capacities. -/
theorem exec_bounded (c : Instr) {s t : State} (h : (messageBlocks s).Bounded) (e : exec c s = .next t) :
    (messageBlocks t).Bounded := by
  cases c with
  | powerOn => exact execPowerOn_bounded _ _ h e
  | resetNAssert => exact execResetNAssert_bounded h e
  | resetNRelease => exact execResetNRelease_bounded _ _ h e
  | synthesizerLock => exact execSynthesizerLock_bounded h e
  | supplyLoss => exact execSupplyLoss_bounded h e
  | referencePulse edge => exact execReferencePulse_bounded edge h e
  | nominalBoundary fires =>
    cases e
    split
    · exact boundary_bounded _ _ _ h
    · exact h
  | miss | frameOutEnd | pulseEnd | receiverArmed | startBit | falseStart =>
    cases e
    split <;> exact h
  | entryFire | frameSent =>
    cases e
    split
    · split <;> exact h
    · exact h
  | safeNChange level =>
    cases e
    split
    · rw [sampleSafe_messageBlocks]
      exact h
    · exact h
  | safeNQualified =>
    cases e
    split
    · split
      · rw [setLatch_messageBlocks]
        exact h
      · exact h
    · exact h
  | inputLevelChange lane level =>
    cases e
    split
    · rw [sampleInput_messageBlocks]
      exact h
    · exact h
  | edgeQualified before => exact execEdgeQualified_bounded before h e
  | receiveFrame low => exact execReceiveFrame_bounded low h e
  | goodByte b => exact execGoodByte_bounded b h e
  | noiseByte b => exact execNoiseByte_bounded b h e
  | stopBitError => exact execStopBitError_bounded h e
  | lengthError b => exact execLengthError_bounded b h e
  | frameTimeout => exact execFrameTimeout_bounded h e
  | transmitStart => exact execTransmitStart_bounded h e
  | dueReplyPlace => exact execDueReplyPlace_bounded h e
  | restartReplyPlace => exact execRestartReplyPlace_bounded h e
  | restartTakesEffect => cases e; exact settleRestart_bounded h
  | unknownKind => exact execUnknownKind_bounded h e
  | restart => cases e; exact serveWith_bounded h fun r _ hu _ _ => ownRestart_bounded r hu
  | syncWait => cases e; exact serveWith_bounded h fun r _ hu hdue hroom => ownSyncWait_bounded r hu hdue hroom
  | linkStats => cases e; exact serve_bounded h (fun b _ => ownLinkStats_bounded b) ownLinkStats_arb
  | captureGrant => cases e; exact serve_bounded h (fun b _ => ownCaptureGrant_bounded b) fun _ _ => rfl
  | captureFlush => cases e; exact serve_bounded h (fun b _ => ownCaptureFlush_bounded b) fun _ _ => rfl
  | identify | captureStatus => cases e; exact serve_bounded_of_kept h fun _ _ => rfl
  | timeRead => cases e; exact serve_bounded_of_kept (own := ownTimeRead) h fun _ _ => rfl
  | frameRenumber => cases e; exact serve_bounded_of_kept h ownFrameRenumber_messageBlocks
  | trackConfig => cases e; exact serve_bounded_of_kept h ownTrackConfig_messageBlocks
  | trackStatus => cases e; exact serve_bounded_of_kept h ownTrackStatus_messageBlocks
  | entryAdd | entryRemove | bankClear | bankCopy | bankLength =>
    cases e
    exact serve_bounded_of_kept h fun _ u => editShadow_messageBlocks u ..
  | bankRead => cases e; exact serve_bounded_of_kept h ownBankRead_messageBlocks
  | commit => cases e; exact serve_bounded_of_kept h ownCommit_messageBlocks
  | commitCancel => cases e; exact serve_bounded_of_kept h ownCommitCancel_messageBlocks
  | laneConfig => cases e; exact serve_bounded_of_kept h ownLaneConfig_messageBlocks
  | laneForce => cases e; exact serve_bounded_of_kept h ownLaneForce_messageBlocks
  | laneRelease => cases e; exact serve_bounded_of_kept h ownLaneRelease_messageBlocks
  | laneStatus => cases e; exact serve_bounded_of_kept h ownLaneStatus_messageBlocks
  | safeEnter =>
    cases e
    exact serve_bounded_of_kept (own := ownSafeEnter) h fun _ u => setLatch_messageBlocks .request u
  | safeRelease => cases e; exact serve_bounded_of_kept h ownSafeRelease_messageBlocks
  | inputConfig => cases e; exact serve_bounded_of_kept h ownInputConfig_messageBlocks
  | latchRead => cases e; exact serve_bounded_of_kept h ownLatchRead_messageBlocks

theorem enter_bounded {s : State} (src : Source) (h : (messageBlocks s).Bounded) : (messageBlocks (enter src s)).Bounded := by
  cases hs : s.flags.handed.of src with
  | nil =>
    simp only [enter, hs]
    exact h
  | cons e rest =>
    rw [enter_of_cons hs]
    exact h.withArb (h.arb.raise e)

theorem step_bounded {s t : State} (h : (messageBlocks s).Bounded) (e : step s = .next t) : (messageBlocks t).Bounded := by
  cases hp : s.pending with
  | cons c rest =>
    simp only [step, hp] at e
    exact exec_bounded c (s := { s with pending := rest }) h e
  | nil =>
    rw [step_of_empty hp] at e
    by_cases hr : s.phase = .running
    · obtain ⟨c, _, hs⟩ | ⟨src, _, hs⟩ | ⟨_, hs⟩ := ownStep_cases hr
      · exact exec_bounded c (s := { s with choices := s.choices + 1 }) h (hs ▸ e)
      · cases hs.symm.trans e
        exact enter_bounded (s := { s with choices := s.choices + 1 }) src h
      · cases hs.symm.trans e
        exact h
    · cases (ownStep_of_not_running hr).symm.trans e
      exact h

/-- Settles O58: the message blocks stay bounded at every command, at every event that enters and at every tick, and the
tracker's counters at every writer of the frame blocks. -/
theorem stepKeepsCapacities : Obligations.StepKeepsCapacities := by
  intro s t h e
  obtain ⟨hblocks, htracker⟩ := (capacities_iff s).mp h
  exact (capacities_iff t).mpr ⟨step_bounded hblocks e, step_countsBounded htracker e⟩

end Sys2Proof.Machine
end

section
/-! SUPPORT. Proof of the statement about the schedule entry's 13 bytes: each field's writing and reading, what any entry's bytes
read back as, and the fields of an entry in range. -/

namespace Sys2Proof.Machine

open Sys2Proof Sys2Proof.Machine Sys2Proof.Claims

/-! ### Each field, written and read (R170, R171) -/

theorem beNat_be3 {n : Nat} (h : n < 16777216) : beNat (be3 n) = n := by
  simp only [beNat, be3, be2, be1, List.foldl_cons, List.foldl_nil, BitVec.toNat_ofNat]
  omega

theorem toNat_ofNat_byte {n : Nat} (h : n < 256) : (BitVec.ofNat 8 n).toNat = n := by
  rw [BitVec.toNat_ofNat]
  exact Nat.mod_eq_of_lt h

theorem readLane_ofNat_val (lane : Lane) : readLane (BitVec.ofNat 8 lane.val) = some lane :=
  readLane_of_val (toNat_ofNat_byte (lane.isLt.trans (by decide))).symm

theorem readAction_code (a : Action) : readAction a.code = some a := by
  cases a <;> rfl

theorem readFlag_flagCode (b : Bool) : readFlag (flagCode b) = some b := by
  cases b <;> rfl

/-- An optional item is a flag and the bytes of a number, 0 where the item is absent (R170). -/
theorem present_eq (write : Nat → List Byte) (n : Option Nat) : present write n = flagCode n.isSome :: write (n.getD 0) := by
  cases n <;> rfl

/-- The width that two bytes hold: 0 stands for an absent one (R172). -/
theorem width_read_back {width : Option Nat} (h : ∀ w, width = some w → 1 ≤ w ∧ w ≤ 65535) :
    (if beNat (be2 (width.getD 0)) = 0 then none else some (beNat (be2 (width.getD 0)))) = width := by
  cases width with
  | none => rw [Option.getD_none, beNat_be2 (by decide), if_pos rfl]
  | some w =>
    obtain ⟨hpos, hmax⟩ := h w rfl
    rw [Option.getD_some, beNat_be2 (by omega), if_neg (Nat.one_le_iff_ne_zero.mp hpos)]

/-- The tag that a flag and two bytes hold (R172). -/
theorem tag_read_back {tag : Option Nat} (h : ∀ t, tag = some t → t ≤ 65535) :
    (if tag.isSome then some (beNat (be2 (tag.getD 0))) else none) = tag := by
  cases tag with
  | none => rfl
  | some t =>
    have hmax : t ≤ 65535 := h t rfl
    rw [Option.isSome_some, if_pos rfl, Option.getD_some, beNat_be2 (by omega)]

/-! ### The 13 bytes of an entry (R172) -/

theorem Entry.bytes_eq (e : Entry) :
    e.bytes =
      be3 e.offset ++ be1 e.lane.val ++ [e.action.code] ++ be2 (e.width.getD 0) ++ be1 e.period ++ be1 e.phase
        ++ [flagCode e.notify, flagCode e.tag.isSome] ++ be2 (e.tag.getD 0) := by
  rw [Entry.bytes, present_eq]
  simp only [List.append_assoc, List.cons_append, List.nil_append]

theorem Entry.bytes_length (e : Entry) : e.bytes.length = 13 := by
  rw [Entry.bytes_eq]
  rfl

/-- What the bytes of any entry, in range or not, read back as: each number is cut to its bytes, a width of 0 is absent, and the
lane, the action, notify and the presence of the tag are kept. -/
theorem readEntry_bytes (e : Entry) :
    readEntry e.bytes =
      some
        { e with
          offset := beNat (be3 e.offset)
          width := if beNat (be2 (e.width.getD 0)) = 0 then none else some (beNat (be2 (e.width.getD 0)))
          period := (BitVec.ofNat 8 e.period).toNat
          phase := (BitVec.ofNat 8 e.phase).toNat
          tag := if e.tag.isSome then some (beNat (be2 (e.tag.getD 0))) else none } := by
  rw [Entry.bytes_eq]
  simp only [be3, be2, be1, List.cons_append, List.nil_append, readEntry, readLane_ofNat_val, readAction_code,
    readFlag_flagCode]
  rfl

/-! ### The fields of an entry in range (R48) -/

section valid

variable {e : Entry} {length : Nat}

theorem Entry.width_bounds_of_valid (h : e.valid length = true) : ∀ w, e.width = some w → 1 ≤ w ∧ w ≤ 65535 := by
  obtain ⟨-, hpulse, hother, -⟩ := (Entry.valid_iff length e).mp h
  intro w hw
  by_cases ha : e.action = .pulse
  · obtain ⟨v, hv, hbounds⟩ := hpulse ha
    cases hv.symm.trans hw
    exact hbounds
  · cases (hother ha).symm.trans hw

theorem Entry.period_le_of_valid (h : e.valid length = true) : e.period ≤ 64 := by
  obtain ⟨-, -, -, hperiod, -⟩ := (Entry.valid_iff length e).mp h
  have hall : ∀ p ∈ [1, 2, 4, 8, 16, 32, 64], p ≤ 64 := by decide
  exact hall e.period hperiod

end valid

/-- Settles O49: the bytes of an entry read back with every number cut to its bytes, and in range each number fits them: the
offset in 3, the width and the tag in 2, the period and the phase in 1. -/
theorem entryReadsBackAsWritten : Obligations.EntryReadsBackAsWritten := by
  intro e length hlength hvalid
  refine ⟨e.bytes_length, ?_⟩
  have hperiod : e.period ≤ 64 := Entry.period_le_of_valid hvalid
  have hwidth := width_read_back (Entry.width_bounds_of_valid hvalid)
  obtain ⟨hoffset, -, -, -, hphase, htag⟩ := (Entry.valid_iff length e).mp hvalid
  have hoffset24 : e.offset < 16777216 := by omega
  have hperiod8 : e.period < 256 := by omega
  have hphase8 : e.phase < 256 := by omega
  rw [readEntry_bytes, beNat_be3 hoffset24, hwidth, toNat_ofNat_byte hperiod8, toNat_ofNat_byte hphase8,
    tag_read_back fun t ht => (htag t ht).2]

end Sys2Proof.Machine
end

section
/-! SUPPORT. Proofs of the statements about every step: the command it takes, and that it answers a next state. -/

namespace Sys2Proof.Machine

open Sys2Proof Sys2Proof.Machine Sys2Proof.Claims

/-- Beside `step_of_empty`, the other case of the queue. -/
theorem step_of_front {c : Instr} {rest : List Instr} {s : State} (h : s.pending = c :: rest) :
    step s = exec c { s with pending := rest } := by
  simp only [step, h]

/-- The two things a step can run, `exec` and `ownStep`, both answer a next state. -/
theorem step_next (s : State) : ∃ t, step s = .next t := by
  cases hp : s.pending with
  | cons c rest =>
    rw [step_of_front hp]
    exact exec_next c _
  | nil =>
    rw [step_of_empty hp]
    exact ownStep_next s

/-- Settles O1: the case of `step` for a queue that is not empty. -/
theorem frontCommandRuns : Obligations.FrontCommandRuns := fun _ _ _ => step_of_front

/-- Settles O3: the commands by `exec_next`, the steps by the two cases of the queue. -/
theorem noCommandStops : Obligations.NoCommandStops := ⟨exec_next, step_next⟩

end Sys2Proof.Machine
end
